-- ==== Sys2Proof/Config.lean ====
section
/-! DEFINITION. Config: the implementation parameters (00_scope R7), the types of the ROM contents and of the status codes, and the free values. The values of the two tables are Config.roms (Machine/Roms.lean) and Config.statusCodes (Machine/Flags.lean). -/

namespace Sys2Proof

/-- `WORD_W` (R7): the width of the header word. -/
abbrev Config.wordW : Nat := 32

/-- `BR_W` (R7): the width of `hdr_bit_rate_bps`. -/
abbrev Config.brW : Nat := 19

/-- `SR_W` (R7): the width of `hdr_sample_rate_hz`. -/
abbrev Config.srW : Nat := 16

/-- `LEN_W` (R7): the width of `len_bytes`. -/
abbrev Config.lenW : Nat := 16

/-- `PROD_W` (R7): the width of the product in the length formula. -/
abbrev Config.prodW : Nat := 29

/-- `LATENCY` (R7, 70_reset_and_hazards R248): edges from `in_valid` to the registered result. -/
abbrev Config.latency : Nat := 1

/-- The orders in which 4 bytes may form a word. The spec gives one value and no meaning for another (20_memory R40, D6). -/
inductive ByteOrder where
  | bigEndian
deriving DecidableEq, Repr

/-- `BYTE_ORDER` (R7): big-endian, not switchable. -/
abbrev Config.byteOrder : ByteOrder := .bigEndian

/-- The contents of the three lookup tables, `T[row][column]` (41_lookup_tables R130, 20_memory R44 to R46): 15 by 5 bit rates in bits per
second, 3 by 3 sample rates in hertz, 3 by 3 samples per frame. A read is a function on the populated index ranges
only, so an out-of-range read cannot be written down (R47). -/
structure Roms where
  bitrate : Fin 15 → Fin 5 → BitVec Config.brW
  sampleRate : Fin 3 → Fin 3 → BitVec Config.srW
  spf : Fin 3 → Fin 3 → BitVec 11

/-- The numeric value of success and of each error kind (R7, 60_exceptions R200). -/
structure StatusCodes where
  success : Nat
  syncWordMissing : Nat
  reservedVersion : Nat
  reservedLayer : Nat
  invalidBitrateIndex : Nat
  reservedSampleRate : Nat
  reservedEmphasis : Nat
  prohibitedBitrateChannelCombination : Nat
  undefinedFrameLength : Nat
  truncatedPayload : Nat
deriving DecidableEq, Repr

/-- Free values (70_reset_and_hazards R242, U15): what the result registers hold before the first reset, by register number. No body: no
proof can see one (log 8). -/
opaque Config.powerUpValue : Nat → Nat

end Sys2Proof
end

