-- ==== Sys2Proof/Word.lean ====
section
/-! DEFINITION. The word types: the header word (`WORD_W`, 00_scope R7) and the stream byte (20_memory R53). -/

namespace Sys2Proof

/-- A header word, `w` (R8): bit 31 is the first bit on the wire. -/
abbrev Word := BitVec Config.wordW

/-- A stream byte. -/
abbrev Byte := BitVec 8

end Sys2Proof
end

