-- ==== Sys2Proof/Syntax.lean ====
section
/-! DEFINITION. Syntax: the fields of the header word (30_encoding R60), the decoded record (R71), the error kinds (60_exceptions R200) and `Instr`, one constructor per row of the opcode table. -/

namespace Sys2Proof

/-- The three versions in scope (R2, R62). -/
inductive Version where
  | mpeg1
  | mpeg2
  | mpeg25
deriving DecidableEq, Repr

/-- The three layers in scope (R2, R63). -/
inductive Layer where
  | layerI
  | layerII
  | layerIII
deriving DecidableEq, Repr

/-- `channel_mode` (R26, R68). -/
inductive ChannelMode where
  | stereo
  | jointStereo
  | dualChannel
  | singleChannel
deriving DecidableEq, Repr

/-- `emphasis` (R26, R70). -/
inductive Emphasis where
  | none
  | ms5015
  | ccitJ17
deriving DecidableEq, Repr

/-- `joint_stereo_extension`, the tagged union of R71: `None | BandStart(n) | StereoFlags{intensity, ms}`. -/
inductive JointStereoExt where
  | absent
  | bandStart (n : Nat)
  | stereoFlags (intensity ms : Bool)
deriving DecidableEq, Repr

/-- The `FrameHeader` record, exactly the fields of R71. -/
structure FrameHeader where
  version : Version
  layer : Layer
  hasCrc : Bool
  bitRateBps : Nat
  sampleRateHz : Nat
  padded : Bool
  privateBit : Bool
  channelMode : ChannelMode
  jointStereoExt : JointStereoExt
  copyrighted : Bool
  original : Bool
  emphasis : Emphasis
deriving DecidableEq, Repr

/-- The thirteen fields of format HDR32 (R60), from the most significant end. -/
structure HeaderFields where
  sync : BitVec 11
  version : BitVec 2
  layer : BitVec 2
  protection : BitVec 1
  bitrateIdx : BitVec 4
  srateIdx : BitVec 2
  padding : BitVec 1
  privateBit : BitVec 1
  mode : BitVec 2
  modeExt : BitVec 2
  copyright : BitVec 1
  original : BitVec 1
  emphasis : BitVec 2
deriving DecidableEq, Repr

/-- The seven errors `HDEC` can report (R100). -/
inductive HeaderError where
  /-- R102, R201: a sync bit is 0. -/
  | syncWordMissing
  /-- R103, R202: version `01`. -/
  | reservedVersion
  /-- R104, R203: layer `00`. -/
  | reservedLayer
  /-- R105, R204: bit-rate index `1111`. -/
  | invalidBitrateIndex
  /-- R106, R205: sample-rate index `11`. -/
  | reservedSampleRate
  /-- R111, R206: emphasis `10`. -/
  | reservedEmphasis
  /-- R112, R207: a prohibited Layer II pair. -/
  | prohibitedBitrateChannelCombination
deriving DecidableEq, Repr

/-- The one error `FLEN` can report (R150, R155). -/
inductive LengthError where
  /-- R155, R208: the bit rate is 0. -/
  | undefinedFrameLength
deriving DecidableEq, Repr

/-- The complete error taxonomy (R200): the header errors, `FLEN`'s, and the host's own. -/
inductive ErrorKind where
  | header (e : HeaderError)
  | length (e : LengthError)
  /-- R178, R209: raised by the host, never by the block. -/
  | truncatedPayload
deriving DecidableEq, Repr

/-- The decode steps in the source's order (R114), step 3a among them; steps 6 and 9 read two bits each. -/
inductive DecodeStep where
  | version | layer | protection | bitrate | srate | padding | privateBit
  | mode | modeExt | copyright | original | emphasis | layerII
deriving DecidableEq, Repr

/-- One constructor per row of spec/opcode_table.json. `hdec` has the word's fields as its operand (R100), `flen` a
record (R150). Every other row is one code point of a field, or one prohibited pattern, and has no operand left. -/
inductive Instr where
  /-- HDEC: decode one header word (R100). -/
  | hdec (f : HeaderFields)
  /-- FLEN: frame length of a decoded header (R150). -/
  | flen (h : FrameHeader)
  /-- version.MPEG2_5 (R103): MPEG2.5; vcol 2; version group MPEG2/2.5. -/
  | versionMpeg25
  /-- version.reserved (R103): reserved: error ReservedVersion (code 2). -/
  | versionReserved
  /-- version.MPEG2 (R103): MPEG2; vcol 1; version group MPEG2/2.5. -/
  | versionMpeg2
  /-- version.MPEG1 (R103): MPEG1; vcol 0; version group MPEG1. -/
  | versionMpeg1
  /-- layer.reserved (R104): reserved: error ReservedLayer (code 3). -/
  | layerReserved
  /-- layer.III (R104): Layer III; lrow 2. -/
  | layerIII
  /-- layer.II (R104): Layer II; lrow 1. -/
  | layerII
  /-- layer.I (R104): Layer I; lrow 0. -/
  | layerI
  /-- protection.protected (R113): has_crc = true (inverted polarity). -/
  | protectionProtected
  /-- protection.unprotected (R113): has_crc = false. -/
  | protectionUnprotected
  /-- bitrate_idx.0 (R105): free bit rate: bit_rate_bps = 0 in every column. -/
  | bitrateIdx0
  /-- bitrate_idx.1 (R105): BITRATE_ROM row 1; column by version group and layer (R131). -/
  | bitrateIdx1
  /-- bitrate_idx.2 (R105): BITRATE_ROM row 2; column by version group and layer (R131). -/
  | bitrateIdx2
  /-- bitrate_idx.3 (R105): BITRATE_ROM row 3; column by version group and layer (R131). -/
  | bitrateIdx3
  /-- bitrate_idx.4 (R105): BITRATE_ROM row 4; column by version group and layer (R131). -/
  | bitrateIdx4
  /-- bitrate_idx.5 (R105): BITRATE_ROM row 5; column by version group and layer (R131). -/
  | bitrateIdx5
  /-- bitrate_idx.6 (R105): BITRATE_ROM row 6; column by version group and layer (R131). -/
  | bitrateIdx6
  /-- bitrate_idx.7 (R105): BITRATE_ROM row 7; column by version group and layer (R131). -/
  | bitrateIdx7
  /-- bitrate_idx.8 (R105): BITRATE_ROM row 8; column by version group and layer (R131). -/
  | bitrateIdx8
  /-- bitrate_idx.9 (R105): BITRATE_ROM row 9; column by version group and layer (R131). -/
  | bitrateIdx9
  /-- bitrate_idx.10 (R105): BITRATE_ROM row 10; column by version group and layer (R131). -/
  | bitrateIdx10
  /-- bitrate_idx.11 (R105): BITRATE_ROM row 11; column by version group and layer (R131). -/
  | bitrateIdx11
  /-- bitrate_idx.12 (R105): BITRATE_ROM row 12; column by version group and layer (R131). -/
  | bitrateIdx12
  /-- bitrate_idx.13 (R105): BITRATE_ROM row 13; column by version group and layer (R131). -/
  | bitrateIdx13
  /-- bitrate_idx.14 (R105): BITRATE_ROM row 14; column by version group and layer (R131). -/
  | bitrateIdx14
  /-- bitrate_idx.15 (R105): invalid: error InvalidBitrateIndex (code 4); no ROM row. -/
  | bitrateIdx15
  /-- srate_idx.0 (R106): SAMPLERATE_ROM row 0; column by version. -/
  | srateIdx0
  /-- srate_idx.1 (R106): SAMPLERATE_ROM row 1; column by version. -/
  | srateIdx1
  /-- srate_idx.2 (R106): SAMPLERATE_ROM row 2; column by version. -/
  | srateIdx2
  /-- srate_idx.3 (R106): reserved: error ReservedSampleRate (code 5); no ROM row. -/
  | srateIdx3
  /-- padding.0 (R107): padded = false. -/
  | padding0
  /-- padding.1 (R107): padded = true. -/
  | padding1
  /-- private.0 (R107): private = false. -/
  | privateBit0
  /-- private.1 (R107): private = true. -/
  | privateBit1
  /-- mode.Stereo (R108): channel_mode = Stereo. -/
  | modeStereo
  /-- mode.JointStereo (R108): channel_mode = JointStereo. -/
  | modeJointStereo
  /-- mode.DualChannel (R108): channel_mode = DualChannel. -/
  | modeDualChannel
  /-- mode.SingleChannel (R108): channel_mode = SingleChannel. -/
  | modeSingleChannel
  /-- mode_ext.JS.LayerI.0 (R109): jse = BandStart(4). -/
  | modeExtJsLayerI0
  /-- mode_ext.JS.LayerI.1 (R109): jse = BandStart(8). -/
  | modeExtJsLayerI1
  /-- mode_ext.JS.LayerI.2 (R109): jse = BandStart(12). -/
  | modeExtJsLayerI2
  /-- mode_ext.JS.LayerI.3 (R109): jse = BandStart(16). -/
  | modeExtJsLayerI3
  /-- mode_ext.JS.LayerII.0 (R109): jse = BandStart(4). -/
  | modeExtJsLayerII0
  /-- mode_ext.JS.LayerII.1 (R109): jse = BandStart(8). -/
  | modeExtJsLayerII1
  /-- mode_ext.JS.LayerII.2 (R109): jse = BandStart(12). -/
  | modeExtJsLayerII2
  /-- mode_ext.JS.LayerII.3 (R109): jse = BandStart(16). -/
  | modeExtJsLayerII3
  /-- mode_ext.JS.LayerIII.0 (R109): jse = StereoFlags{intensity=false, ms=false}. -/
  | modeExtJsLayerIII0
  /-- mode_ext.JS.LayerIII.1 (R109): jse = StereoFlags{intensity=true, ms=false}. -/
  | modeExtJsLayerIII1
  /-- mode_ext.JS.LayerIII.2 (R109): jse = StereoFlags{intensity=false, ms=true}. -/
  | modeExtJsLayerIII2
  /-- mode_ext.JS.LayerIII.3 (R109): jse = StereoFlags{intensity=true, ms=true}. -/
  | modeExtJsLayerIII3
  /-- mode_ext.ignored.Stereo (R109): jse = None; all four mode_ext codes ignored. -/
  | modeExtIgnoredStereo
  /-- mode_ext.ignored.DualChannel (R109): jse = None; all four mode_ext codes ignored. -/
  | modeExtIgnoredDualChannel
  /-- mode_ext.ignored.SingleChannel (R109): jse = None; all four mode_ext codes ignored. -/
  | modeExtIgnoredSingleChannel
  /-- copyright.0 (R110): copyrighted = false. -/
  | copyright0
  /-- copyright.1 (R110): copyrighted = true. -/
  | copyright1
  /-- original.0 (R110): original = false. -/
  | original0
  /-- original.1 (R110): original = true. -/
  | original1
  /-- emphasis.None (R111): emphasis = None. -/
  | emphasisNone
  /-- emphasis.Ms5015 (R111): emphasis = Ms5015. -/
  | emphasisMs5015
  /-- emphasis.reserved (R111): reserved: error ReservedEmphasis (code 6). -/
  | emphasisReserved
  /-- emphasis.CcitJ17 (R111): emphasis = CcitJ17. -/
  | emphasisCcitJ17
  /-- l2check.MPEG1.32k.Stereo (R112): Layer II, 32 kbps, Stereo: error ProhibitedBitrateChannelCombination (code 7) unless an earlier step fails. -/
  | l2checkMpeg1Rate32kStereo
  /-- l2check.MPEG1.32k.JointStereo (R112): Layer II, 32 kbps, JointStereo: error ProhibitedBitrateChannelCombination (code 7) unless an earlier step fails. -/
  | l2checkMpeg1Rate32kJointStereo
  /-- l2check.MPEG1.32k.DualChannel (R112): Layer II, 32 kbps, DualChannel: error ProhibitedBitrateChannelCombination (code 7) unless an earlier step fails. -/
  | l2checkMpeg1Rate32kDualChannel
  /-- l2check.MPEG1.48k.Stereo (R112): Layer II, 48 kbps, Stereo: error ProhibitedBitrateChannelCombination (code 7) unless an earlier step fails. -/
  | l2checkMpeg1Rate48kStereo
  /-- l2check.MPEG1.48k.JointStereo (R112): Layer II, 48 kbps, JointStereo: error ProhibitedBitrateChannelCombination (code 7) unless an earlier step fails. -/
  | l2checkMpeg1Rate48kJointStereo
  /-- l2check.MPEG1.48k.DualChannel (R112): Layer II, 48 kbps, DualChannel: error ProhibitedBitrateChannelCombination (code 7) unless an earlier step fails. -/
  | l2checkMpeg1Rate48kDualChannel
  /-- l2check.MPEG1.56k.Stereo (R112): Layer II, 56 kbps, Stereo: error ProhibitedBitrateChannelCombination (code 7) unless an earlier step fails. -/
  | l2checkMpeg1Rate56kStereo
  /-- l2check.MPEG1.56k.JointStereo (R112): Layer II, 56 kbps, JointStereo: error ProhibitedBitrateChannelCombination (code 7) unless an earlier step fails. -/
  | l2checkMpeg1Rate56kJointStereo
  /-- l2check.MPEG1.56k.DualChannel (R112): Layer II, 56 kbps, DualChannel: error ProhibitedBitrateChannelCombination (code 7) unless an earlier step fails. -/
  | l2checkMpeg1Rate56kDualChannel
  /-- l2check.MPEG1.80k.Stereo (R112): Layer II, 80 kbps, Stereo: error ProhibitedBitrateChannelCombination (code 7) unless an earlier step fails. -/
  | l2checkMpeg1Rate80kStereo
  /-- l2check.MPEG1.80k.JointStereo (R112): Layer II, 80 kbps, JointStereo: error ProhibitedBitrateChannelCombination (code 7) unless an earlier step fails. -/
  | l2checkMpeg1Rate80kJointStereo
  /-- l2check.MPEG1.80k.DualChannel (R112): Layer II, 80 kbps, DualChannel: error ProhibitedBitrateChannelCombination (code 7) unless an earlier step fails. -/
  | l2checkMpeg1Rate80kDualChannel
  /-- l2check.MPEG1.224k.SingleChannel (R112): Layer II, 224 kbps, SingleChannel: error ProhibitedBitrateChannelCombination (code 7) unless an earlier step fails. -/
  | l2checkMpeg1Rate224kSingleChannel
  /-- l2check.MPEG1.256k.SingleChannel (R112): Layer II, 256 kbps, SingleChannel: error ProhibitedBitrateChannelCombination (code 7) unless an earlier step fails. -/
  | l2checkMpeg1Rate256kSingleChannel
  /-- l2check.MPEG1.320k.SingleChannel (R112): Layer II, 320 kbps, SingleChannel: error ProhibitedBitrateChannelCombination (code 7) unless an earlier step fails. -/
  | l2checkMpeg1Rate320kSingleChannel
  /-- l2check.MPEG1.384k.SingleChannel (R112): Layer II, 384 kbps, SingleChannel: error ProhibitedBitrateChannelCombination (code 7) unless an earlier step fails. -/
  | l2checkMpeg1Rate384kSingleChannel
  /-- l2check.MPEG2.32k.Stereo (R112): Layer II, 32 kbps, Stereo: error ProhibitedBitrateChannelCombination (code 7) unless an earlier step fails. -/
  | l2checkMpeg2Rate32kStereo
  /-- l2check.MPEG2.32k.JointStereo (R112): Layer II, 32 kbps, JointStereo: error ProhibitedBitrateChannelCombination (code 7) unless an earlier step fails. -/
  | l2checkMpeg2Rate32kJointStereo
  /-- l2check.MPEG2.32k.DualChannel (R112): Layer II, 32 kbps, DualChannel: error ProhibitedBitrateChannelCombination (code 7) unless an earlier step fails. -/
  | l2checkMpeg2Rate32kDualChannel
  /-- l2check.MPEG2.48k.Stereo (R112): Layer II, 48 kbps, Stereo: error ProhibitedBitrateChannelCombination (code 7) unless an earlier step fails. -/
  | l2checkMpeg2Rate48kStereo
  /-- l2check.MPEG2.48k.JointStereo (R112): Layer II, 48 kbps, JointStereo: error ProhibitedBitrateChannelCombination (code 7) unless an earlier step fails. -/
  | l2checkMpeg2Rate48kJointStereo
  /-- l2check.MPEG2.48k.DualChannel (R112): Layer II, 48 kbps, DualChannel: error ProhibitedBitrateChannelCombination (code 7) unless an earlier step fails. -/
  | l2checkMpeg2Rate48kDualChannel
  /-- l2check.MPEG2.56k.Stereo (R112): Layer II, 56 kbps, Stereo: error ProhibitedBitrateChannelCombination (code 7) unless an earlier step fails. -/
  | l2checkMpeg2Rate56kStereo
  /-- l2check.MPEG2.56k.JointStereo (R112): Layer II, 56 kbps, JointStereo: error ProhibitedBitrateChannelCombination (code 7) unless an earlier step fails. -/
  | l2checkMpeg2Rate56kJointStereo
  /-- l2check.MPEG2.56k.DualChannel (R112): Layer II, 56 kbps, DualChannel: error ProhibitedBitrateChannelCombination (code 7) unless an earlier step fails. -/
  | l2checkMpeg2Rate56kDualChannel
  /-- l2check.MPEG2.80k.Stereo (R112): Layer II, 80 kbps, Stereo: error ProhibitedBitrateChannelCombination (code 7) unless an earlier step fails. -/
  | l2checkMpeg2Rate80kStereo
  /-- l2check.MPEG2.80k.JointStereo (R112): Layer II, 80 kbps, JointStereo: error ProhibitedBitrateChannelCombination (code 7) unless an earlier step fails. -/
  | l2checkMpeg2Rate80kJointStereo
  /-- l2check.MPEG2.80k.DualChannel (R112): Layer II, 80 kbps, DualChannel: error ProhibitedBitrateChannelCombination (code 7) unless an earlier step fails. -/
  | l2checkMpeg2Rate80kDualChannel
  /-- l2check.MPEG2.5.32k.Stereo (R112): Layer II, 32 kbps, Stereo: error ProhibitedBitrateChannelCombination (code 7) unless an earlier step fails. -/
  | l2checkMpeg25Rate32kStereo
  /-- l2check.MPEG2.5.32k.JointStereo (R112): Layer II, 32 kbps, JointStereo: error ProhibitedBitrateChannelCombination (code 7) unless an earlier step fails. -/
  | l2checkMpeg25Rate32kJointStereo
  /-- l2check.MPEG2.5.32k.DualChannel (R112): Layer II, 32 kbps, DualChannel: error ProhibitedBitrateChannelCombination (code 7) unless an earlier step fails. -/
  | l2checkMpeg25Rate32kDualChannel
  /-- l2check.MPEG2.5.48k.Stereo (R112): Layer II, 48 kbps, Stereo: error ProhibitedBitrateChannelCombination (code 7) unless an earlier step fails. -/
  | l2checkMpeg25Rate48kStereo
  /-- l2check.MPEG2.5.48k.JointStereo (R112): Layer II, 48 kbps, JointStereo: error ProhibitedBitrateChannelCombination (code 7) unless an earlier step fails. -/
  | l2checkMpeg25Rate48kJointStereo
  /-- l2check.MPEG2.5.48k.DualChannel (R112): Layer II, 48 kbps, DualChannel: error ProhibitedBitrateChannelCombination (code 7) unless an earlier step fails. -/
  | l2checkMpeg25Rate48kDualChannel
  /-- l2check.MPEG2.5.56k.Stereo (R112): Layer II, 56 kbps, Stereo: error ProhibitedBitrateChannelCombination (code 7) unless an earlier step fails. -/
  | l2checkMpeg25Rate56kStereo
  /-- l2check.MPEG2.5.56k.JointStereo (R112): Layer II, 56 kbps, JointStereo: error ProhibitedBitrateChannelCombination (code 7) unless an earlier step fails. -/
  | l2checkMpeg25Rate56kJointStereo
  /-- l2check.MPEG2.5.56k.DualChannel (R112): Layer II, 56 kbps, DualChannel: error ProhibitedBitrateChannelCombination (code 7) unless an earlier step fails. -/
  | l2checkMpeg25Rate56kDualChannel
  /-- l2check.MPEG2.5.80k.Stereo (R112): Layer II, 80 kbps, Stereo: error ProhibitedBitrateChannelCombination (code 7) unless an earlier step fails. -/
  | l2checkMpeg25Rate80kStereo
  /-- l2check.MPEG2.5.80k.JointStereo (R112): Layer II, 80 kbps, JointStereo: error ProhibitedBitrateChannelCombination (code 7) unless an earlier step fails. -/
  | l2checkMpeg25Rate80kJointStereo
  /-- l2check.MPEG2.5.80k.DualChannel (R112): Layer II, 80 kbps, DualChannel: error ProhibitedBitrateChannelCombination (code 7) unless an earlier step fails. -/
  | l2checkMpeg25Rate80kDualChannel
deriving DecidableEq, Repr

end Sys2Proof
end

