-- ==== Sys2Proof/Machine/Roms.lean ====
section
/-! DEFINITION. The lookup tables: their contents, what a model may assume of other contents, the address of every entry and the read primitive (20_memory R45 to R47, 41_lookup_tables R130 to R138). -/

namespace Sys2Proof

/-- R132, in kbps, row by row. Row 0 is the source's (R133). PRESUMED: rows 1 to 14 are from general knowledge (G1, D9; log 1). -/
def bitrateKbps : Vector (Vector Nat 5) 15 :=
  #v[#v[0, 0, 0, 0, 0],
     #v[32, 32, 32, 32, 8],
     #v[64, 48, 40, 48, 16],
     #v[96, 56, 48, 56, 24],
     #v[128, 64, 56, 64, 32],
     #v[160, 80, 64, 80, 40],
     #v[192, 96, 80, 96, 48],
     #v[224, 112, 96, 112, 56],
     #v[256, 128, 112, 128, 64],
     #v[288, 160, 128, 144, 80],
     #v[320, 192, 160, 160, 96],
     #v[352, 224, 192, 176, 112],
     #v[384, 256, 224, 192, 128],
     #v[416, 320, 256, 224, 144],
     #v[448, 384, 320, 256, 160]]

/-- R134, in hertz. The MPEG1 entry at index 0 is the source's. PRESUMED: 48000 and 32000 are from general knowledge (G2, D10;
log 2); the rest follows by the halving law (R135). -/
def sampleRateHz : Vector (Vector Nat 3) 3 :=
  #v[#v[44100, 22050, 11025],
     #v[48000, 24000, 12000],
     #v[32000, 16000, 8000]]

/-- R136, in samples per frame, all of it the source's. -/
def samplesPerFrame : Vector (Vector Nat 3) 3 :=
  #v[#v[384, 384, 384],
     #v[1152, 1152, 1152],
     #v[1152, 576, 576]]

/-- The ROMs of this machine: the spec's defaults (R132, R134, R136). -/
def Config.roms : Roms where
  bitrate idx col := BitVec.ofNat Config.brW (1000 * bitrateKbps[idx][col])
  sampleRate sidx vcol := BitVec.ofNat Config.srW sampleRateHz[sidx][vcol]
  spf lrow vcol := BitVec.ofNat 11 samplesPerFrame[lrow][vcol]

/-- What the source supports about ROM contents taken as a parameter (R138, facts 1 to 8), with the non-zero sample rates R135
adds. A claim over all admissible ROMs rests on no unstated table. -/
structure Roms.Admissible (R : Roms) : Prop where
  freeRow : ∀ col, R.bitrate 0 col = 0
  has128k : ∃ idx, (R.bitrate idx 2).toNat = 128000
  has320k : ∃ idx, (R.bitrate idx 1).toNat = 320000 ∨ (R.bitrate idx 4).toNat = 320000
  rate44100 : (R.sampleRate 0 0).toNat = 44100
  halving : ∀ i, (R.sampleRate i 0).toNat = 2 * (R.sampleRate i 1).toNat ∧
    (R.sampleRate i 1).toNat = 2 * (R.sampleRate i 2).toNat
  nonzero : ∀ i v, 0 < (R.sampleRate i v).toNat
  spfExact : ∀ l v, (R.spf l v).toNat = samplesPerFrame[l][v]

/-- `vcol`: the version's column in the sample-rate and samples-per-frame tables (R62). -/
def Version.vcol : Version → Fin 3
  | .mpeg1 => 0
  | .mpeg2 => 1
  | .mpeg25 => 2

/-- `lrow`: the layer's row in the samples-per-frame table (R63). -/
def Layer.lrow : Layer → Fin 3
  | .layerI => 0
  | .layerII => 1
  | .layerIII => 2

/-- `col(group, layer)`, the bit-rate column (R131): MPEG1 by layer; MPEG2 and MPEG2.5 share a set in which Layers II and III share one. -/
def bitrateCol : Version → Layer → Fin 5
  | .mpeg1, .layerI => 0
  | .mpeg1, .layerII => 1
  | .mpeg1, .layerIII => 2
  | .mpeg2, .layerI => 3
  | .mpeg2, .layerII => 4
  | .mpeg2, .layerIII => 4
  | .mpeg25, .layerI => 3
  | .mpeg25, .layerII => 4
  | .mpeg25, .layerIII => 4

/-- The three read-only spaces (R32, R45). -/
inductive RomSpace where
  | bitrateRom
  | sampleRateRom
  | spfRom
deriving DecidableEq, Repr

/-- Address bits of a space (R45). -/
def RomSpace.addrBits : RomSpace → Nat
  | .bitrateRom => 7
  | .sampleRateRom => 4
  | .spfRom => 4

/-- Entry width of a space (R44). -/
def RomSpace.entryBits : RomSpace → Nat
  | .bitrateRom => 19
  | .sampleRateRom => 16
  | .spfRom => 11

/-- `{col, idx}` (R45). -/
def bitrateAddr (col : BitVec 3) (idx : BitVec 4) : BitVec 7 := col ++ idx

/-- `{vcol, sidx}` (R45). -/
def sampleRateAddr (vcol sidx : BitVec 2) : BitVec 4 := vcol ++ sidx

/-- `{lrow, vcol}` (R45). -/
def spfAddr (lrow vcol : BitVec 2) : BitVec 4 := lrow ++ vcol

/-- One ROM access: the space and the entry address in it (R137). -/
structure RomAccess where
  space : RomSpace
  addr : Nat
deriving DecidableEq, Repr

/-- `MemRead(space, addr, n)` (R46): the entry at an address, none where the address names no entry (R47). -/
def memRead (R : Roms) (space : RomSpace) (addr : Nat) : Option Nat :=
  match space with
  | .bitrateRom =>
    if h : addr % 16 < 15 ∧ addr / 16 < 5 then
      some (R.bitrate ⟨addr % 16, h.1⟩ ⟨addr / 16, h.2⟩).toNat
    else none
  | .sampleRateRom =>
    if h : addr % 4 < 3 ∧ addr / 4 < 3 then
      some (R.sampleRate ⟨addr % 4, h.1⟩ ⟨addr / 4, h.2⟩).toNat
    else none
  | .spfRom =>
    if h : addr / 4 < 3 ∧ addr % 4 < 3 then
      some (R.spf ⟨addr / 4, h.1⟩ ⟨addr % 4, h.2⟩).toNat
    else none

end Sys2Proof
end

