-- ==== Sys2Proof/Machine/Operands.lean ====
section
/-! DEFINITION. Operand assembly: one function per decode step, from a field's bits to its value or the step's error (30_encoding R61 to R70, R75; 40_header_decoder R102 to R113), and the codes the values have at the output port (R72, R73). -/

namespace Sys2Proof

/-- Step 1 (R102, R61): the eleven sync bits must all be 1. -/
def checkSync (sync : BitVec 11) : Except HeaderError Unit :=
  if sync = 0x7FF#11 then .ok () else .error .syncWordMissing

/-- Step 2 (R103, R62). -/
def decodeVersion (code : BitVec 2) : Except HeaderError Version :=
  if code = 0b00#2 then .ok .mpeg25
  else if code = 0b01#2 then .error .reservedVersion
  else if code = 0b10#2 then .ok .mpeg2
  else .ok .mpeg1

/-- Step 3 (R104, R63): the codes run opposite to the layer numbers. -/
def decodeLayer (code : BitVec 2) : Except HeaderError Layer :=
  if code = 0b00#2 then .error .reservedLayer
  else if code = 0b01#2 then .ok .layerIII
  else if code = 0b10#2 then .ok .layerII
  else .ok .layerI

/-- Step 3a (R113, R64): inverted polarity, 0 is protected. -/
def decodeProtection (bit : BitVec 1) : Bool := bit == 0b0#1

/-- Steps 6 and 9 (R107, R110, R67): direct boolean bit reads. -/
def decodeFlag (bit : BitVec 1) : Bool := bit == 0b1#1

/-- Step 4 (R105, R65): index 15 is an error, index 0 the free bit rate, 1 to 14 a row of the table. DESIGN CHOICE (log 25): at index 0
the spec lets a model read row 0 or force 0 (R105, R137); this one forces 0. -/
def decodeBitrate (R : Roms) (v : Version) (l : Layer) (idx : BitVec 4) : Except HeaderError Nat :=
  if h : idx.toNat < 15 then
    if idx = 0b0000#4 then .ok 0
    else .ok (R.bitrate ⟨idx.toNat, h⟩ (bitrateCol v l)).toNat
  else .error .invalidBitrateIndex

/-- Step 5 (R106, R66): index 3 is an error, 0 to 2 a row of the table, keyed by the version itself. -/
def decodeSampleRate (R : Roms) (v : Version) (sidx : BitVec 2) : Except HeaderError Nat :=
  if h : sidx.toNat < 3 then .ok (R.sampleRate ⟨sidx.toNat, h⟩ v.vcol).toNat
  else .error .reservedSampleRate

/-- Step 7 (R108, R68). -/
def decodeMode (code : BitVec 2) : ChannelMode :=
  if code = 0b00#2 then .stereo
  else if code = 0b01#2 then .jointStereo
  else if code = 0b10#2 then .dualChannel
  else .singleChannel

/-- Step 8 (R109, R69): absent unless joint stereo; a starting subband for Layers I and II; two flags for Layer III, intensity the
low bit and ms the high bit (C3). -/
def decodeModeExt (m : ChannelMode) (l : Layer) (x : BitVec 2) : JointStereoExt :=
  match m with
  | .jointStereo =>
    match l with
    | .layerI => .bandStart (4 * (x.toNat + 1))
    | .layerII => .bandStart (4 * (x.toNat + 1))
    | .layerIII => .stereoFlags (x.getLsbD 0) (x.getLsbD 1)
  | .stereo => .absent
  | .dualChannel => .absent
  | .singleChannel => .absent

/-- Step 10 (R111, R70): `10` is reserved (C4). -/
def decodeEmphasis (code : BitVec 2) : Except HeaderError Emphasis :=
  if code = 0b00#2 then .ok .none
  else if code = 0b01#2 then .ok .ms5015
  else if code = 0b10#2 then .error .reservedEmphasis
  else .ok .ccitJ17

/-- The prohibited (bit rate, channel mode) pairs of Layer II (R112), on the decoded bit rate. -/
def prohibitedPair (bitRateBps : Nat) (m : ChannelMode) : Bool :=
  if m = .singleChannel then [224000, 256000, 320000, 384000].contains bitRateBps
  else [32000, 48000, 56000, 80000].contains bitRateBps

/-- Step 11 (R112): checked for Layer II of every version (D16), for no other layer. -/
def checkLayerII (l : Layer) (bitRateBps : Nat) (m : ChannelMode) : Except HeaderError Unit :=
  if l = .layerII ∧ prohibitedPair bitRateBps m then .error .prohibitedBitrateChannelCombination
  else .ok ()

/-- `hdr_version` (R72): the code of the header word. -/
def Version.code : Version → BitVec 2
  | .mpeg1 => 0b11#2
  | .mpeg2 => 0b10#2
  | .mpeg25 => 0b00#2

/-- `hdr_layer` (R72). -/
def Layer.code : Layer → BitVec 2
  | .layerI => 0b11#2
  | .layerII => 0b10#2
  | .layerIII => 0b01#2

/-- `hdr_channel_mode` (R72). -/
def ChannelMode.code : ChannelMode → BitVec 2
  | .stereo => 0b00#2
  | .jointStereo => 0b01#2
  | .dualChannel => 0b10#2
  | .singleChannel => 0b11#2

/-- `hdr_emphasis` (R72). -/
def Emphasis.code : Emphasis → BitVec 2
  | .none => 0b00#2
  | .ms5015 => 0b01#2
  | .ccitJ17 => 0b11#2

/-- `hdr_jse_tag` (R73). -/
def JointStereoExt.tag : JointStereoExt → BitVec 2
  | .absent => 0#2
  | .bandStart _ => 1#2
  | .stereoFlags _ _ => 2#2

/-- `hdr_band_start` (R73): 0 unless the tag is 1. -/
def JointStereoExt.band : JointStereoExt → BitVec 5
  | .absent => 0#5
  | .bandStart n => BitVec.ofNat 5 n
  | .stereoFlags _ _ => 0#5

/-- `hdr_intensity` (R73): 0 unless the tag is 2. -/
def JointStereoExt.intensity : JointStereoExt → Bool
  | .absent => false
  | .bandStart _ => false
  | .stereoFlags i _ => i

/-- `hdr_ms` (R73): 0 unless the tag is 2. -/
def JointStereoExt.ms : JointStereoExt → Bool
  | .absent => false
  | .bandStart _ => false
  | .stereoFlags _ m => m

/-- The union the four port registers spell (R73); tag 3 never occurs and spells none. -/
def jointStereoExtOf (tag : BitVec 2) (band : BitVec 5) (intensity ms : Bool) : Option JointStereoExt :=
  if tag = 0#2 then some .absent
  else if tag = 1#2 then some (.bandStart band.toNat)
  else if tag = 2#2 then some (.stereoFlags intensity ms)
  else none

end Sys2Proof
end

