-- ==== Sys2Proof/Machine/HeaderDecoder.lean ====
section
/-! DEFINITION. `HDEC` as a function of the word's fields (40_header_decoder R100 to R117), the validity of a record (R115) and the ROM reads a word makes (41_lookup_tables R137). -/

namespace Sys2Proof

/-- `HDEC` (R114): the steps in order; the first error ends the operation and is the result. -/
def hdec (R : Roms) (f : HeaderFields) : Except HeaderError FrameHeader := do
  checkSync f.sync
  let version ← decodeVersion f.version
  let layer ← decodeLayer f.layer
  let hasCrc := decodeProtection f.protection
  let bitRateBps ← decodeBitrate R version layer f.bitrateIdx
  let sampleRateHz ← decodeSampleRate R version f.srateIdx
  let padded := decodeFlag f.padding
  let privateBit := decodeFlag f.privateBit
  let channelMode := decodeMode f.mode
  let jointStereoExt := decodeModeExt channelMode layer f.modeExt
  let copyrighted := decodeFlag f.copyright
  let original := decodeFlag f.original
  let emphasis ← decodeEmphasis f.emphasis
  checkLayerII layer bitRateBps channelMode
  return { version, layer, hasCrc, bitRateBps, sampleRateHz, padded, privateBit, channelMode,
           jointStereoExt, copyrighted, original, emphasis }

/-- R115 for the bit rate: 0, or an entry of rows 1 to 14 of the column. -/
def validBitRate (R : Roms) (v : Version) (l : Layer) (bps : Nat) : Bool :=
  bps == 0 || (List.finRange 14).any (fun i => (R.bitrate i.succ (bitrateCol v l)).toNat == bps)

/-- R115 for the sample rate: an entry of the version's column, and not 0. -/
def validSampleRate (R : Roms) (v : Version) (hz : Nat) : Bool :=
  hz != 0 && (List.finRange 3).any (fun i => (R.sampleRate i v.vcol).toNat == hz)

/-- R115 for the union: which variant stands with which channel mode and layer. -/
def validJse (m : ChannelMode) (l : Layer) : JointStereoExt → Bool
  | .absent => m != .jointStereo
  | .bandStart n => m == .jointStereo && l != .layerIII && [4, 8, 12, 16].contains n
  | .stereoFlags _ _ => m == .jointStereo && l == .layerIII

/-- The validity invariant of a record (R115); the enumerated fields hold by their types. -/
def FrameHeader.valid (R : Roms) (h : FrameHeader) : Bool :=
  validBitRate R h.version h.layer h.bitRateBps && validSampleRate R h.version h.sampleRateHz &&
    validJse h.channelMode h.layer h.jointStereoExt &&
    !(h.layer == .layerII && prohibitedPair h.bitRateBps h.channelMode)

/-- The ROM reads `HDEC` performs on a word (R137, R44): the bit rate when the index is 1 to 14, then the sample rate when its index is 0 to 2;
a step that is not reached reads nothing (R114). DESIGN CHOICE (log 25): index 0 forces 0 and reads nothing, where R137 lets a model
read row 0. -/
def hdecReads (f : HeaderFields) : List RomAccess :=
  match checkSync f.sync, decodeVersion f.version, decodeLayer f.layer with
  | .ok _, .ok v, .ok l =>
    if f.bitrateIdx.toNat < 15 then
      (if f.bitrateIdx = 0#4 then []
       else [⟨.bitrateRom, (bitrateAddr (BitVec.ofNat 3 (bitrateCol v l).val) f.bitrateIdx).toNat⟩]) ++
      (if f.srateIdx.toNat < 3 then
        [⟨.sampleRateRom, (sampleRateAddr (BitVec.ofNat 2 v.vcol.val) f.srateIdx).toNat⟩]
       else [])
    else []
  | _, _, _ => []

end Sys2Proof
end

