-- ==== Sys2Proof/Machine/FrameLength.lean ====
section
/-! DEFINITION. `FLEN` as a function of a record (42_frame_length R150 to R157). -/

namespace Sys2Proof

/-- `samples_per_frame`, keyed by layer and version (R151). -/
def samplesPer (R : Roms) (h : FrameHeader) : Nat := (R.spf h.layer.lrow h.version.vcol).toNat

/-- The quotient (R152): product and divisor formed exactly, one floor division. -/
def baseLength (R : Roms) (h : FrameHeader) : Nat :=
  samplesPer R h * h.bitRateBps / (8 * h.sampleRateHz)

/-- `padding_adjustment` (R153): one byte for every layer. -/
def padAdjust (h : FrameHeader) : Nat := if h.padded then 1 else 0

/-- `crc_adjustment` (R154). -/
def crcAdjust (h : FrameHeader) : Nat := if h.hasCrc then 2 else 0

/-- `FLEN` (R150); a bit rate of 0 has no length (R155). Exact in the naturals (R157). -/
def flen (R : Roms) (h : FrameHeader) : Except LengthError Nat :=
  if h.bitRateBps = 0 then .error .undefinedFrameLength
  else .ok (baseLength R h + padAdjust h + crcAdjust h)

/-- `payload_len` (R156), computed by the host from `FLEN`'s result `n`. -/
def payloadLen (h : FrameHeader) (n : Nat) : Nat := n - 4 - crcAdjust h

/-- The ROM read `FLEN` performs (R137, R44): one, unless the length is undefined. -/
def flenReads (h : FrameHeader) : List RomAccess :=
  if h.bitRateBps = 0 then []
  else [⟨.spfRom, (spfAddr (BitVec.ofNat 2 h.layer.lrow.val) (BitVec.ofNat 2 h.version.vcol.val)).toNat⟩]

end Sys2Proof
end

