-- ==== Sys2Proof/Machine/Flags.lean ====
section
/-! DEFINITION. The status codes, the block's only flags (10_state R27, R28; 60_exceptions R200). -/

namespace Sys2Proof

/-- The status codes (R200). -/
def Config.statusCodes : StatusCodes where
  success := 0
  syncWordMissing := 1
  reservedVersion := 2
  reservedLayer := 3
  invalidBitrateIndex := 4
  reservedSampleRate := 5
  reservedEmphasis := 6
  prohibitedBitrateChannelCombination := 7
  undefinedFrameLength := 8
  truncatedPayload := 9

/-- The code of every error kind (R200): 8 is shown as `len_status` = 1, 9 never appears at the ports. -/
def ErrorKind.code : ErrorKind → Nat
  | .header .syncWordMissing => Config.statusCodes.syncWordMissing
  | .header .reservedVersion => Config.statusCodes.reservedVersion
  | .header .reservedLayer => Config.statusCodes.reservedLayer
  | .header .invalidBitrateIndex => Config.statusCodes.invalidBitrateIndex
  | .header .reservedSampleRate => Config.statusCodes.reservedSampleRate
  | .header .reservedEmphasis => Config.statusCodes.reservedEmphasis
  | .header .prohibitedBitrateChannelCombination => Config.statusCodes.prohibitedBitrateChannelCombination
  | .length .undefinedFrameLength => Config.statusCodes.undefinedFrameLength
  | .truncatedPayload => Config.statusCodes.truncatedPayload

/-- The value of `out_status` for a header error (R200), 4 bits (R27). -/
def HeaderError.code (e : HeaderError) : BitVec 4 := BitVec.ofNat 4 (ErrorKind.header e).code

/-- The error kind a non-zero `out_status` names (R200), for the host that reads it; none for 0 and for codes `HDEC` never writes. -/
def headerErrorOf (status : BitVec 4) : Option HeaderError :=
  [HeaderError.syncWordMissing, .reservedVersion, .reservedLayer, .invalidBitrateIndex, .reservedSampleRate,
    .reservedEmphasis, .prohibitedBitrateChannelCombination].find? (fun e => e.code == status)

/-- `out_status` on success (R27). -/
def statusOk : BitVec 4 := BitVec.ofNat 4 Config.statusCodes.success

/-- `len_status` when `len_bytes` holds a length (R28). -/
def lenStatusOk : BitVec 2 := 0#2

/-- `len_status` for `UndefinedFrameLength` (R28). -/
def lenStatusUndefined : BitVec 2 := 1#2

/-- `len_status` when there is no header (R28). -/
def lenStatusNoHeader : BitVec 2 := 2#2

end Sys2Proof
end

