-- ==== Sys2Proof/Machine/State.lean ====
section
/-! DEFINITION. State: the result registers (10_state R25 to R28), the ports at the coming edge (70_reset_and_hazards R241) and the host scanner (45_host_stream_scanner R170 to R182), as plain data. -/

namespace Sys2Proof.Machine

/-- The result registers (R25 to R28). One-bit registers are Booleans, 1 is true (R74; log 23). -/
structure ResultRegs where
  /-- `out_valid` (R25) -/
  outValid : Bool
  /-- `out_status`, 4 bits (R27) -/
  outStatus : BitVec 4
  /-- `hdr_version` (R26) -/
  hdrVersion : BitVec 2
  /-- `hdr_layer` (R26) -/
  hdrLayer : BitVec 2
  /-- `hdr_has_crc` (R26) -/
  hdrHasCrc : Bool
  /-- `hdr_bit_rate_bps`, `BR_W` bits (R26) -/
  hdrBitRateBps : BitVec Config.brW
  /-- `hdr_sample_rate_hz`, `SR_W` bits (R26) -/
  hdrSampleRateHz : BitVec Config.srW
  /-- `hdr_padded` (R26) -/
  hdrPadded : Bool
  /-- `hdr_private` (R26) -/
  hdrPrivate : Bool
  /-- `hdr_channel_mode` (R26) -/
  hdrChannelMode : BitVec 2
  /-- `hdr_jse_tag` (R26, R73) -/
  hdrJseTag : BitVec 2
  /-- `hdr_band_start` (R26, R73) -/
  hdrBandStart : BitVec 5
  /-- `hdr_intensity` (R26, R73) -/
  hdrIntensity : Bool
  /-- `hdr_ms` (R26, R73) -/
  hdrMs : Bool
  /-- `hdr_copyrighted` (R26) -/
  hdrCopyrighted : Bool
  /-- `hdr_original` (R26) -/
  hdrOriginal : Bool
  /-- `hdr_emphasis` (R26) -/
  hdrEmphasis : BitVec 2
  /-- `len_status`, 2 bits (R28) -/
  lenStatus : BitVec 2
  /-- `len_bytes`, `LEN_W` bits (R28) -/
  lenBytes : BitVec Config.lenW
deriving DecidableEq, Repr

/-- The registers after an edge with `rst` = 1 (R242). -/
def ResultRegs.reset : ResultRegs where
  outValid := false
  outStatus := 0
  hdrVersion := 0
  hdrLayer := 0
  hdrHasCrc := false
  hdrBitRateBps := 0
  hdrSampleRateHz := 0
  hdrPadded := false
  hdrPrivate := false
  hdrChannelMode := 0
  hdrJseTag := 0
  hdrBandStart := 0
  hdrIntensity := false
  hdrMs := false
  hdrCopyrighted := false
  hdrOriginal := false
  hdrEmphasis := 0
  lenStatus := 2
  lenBytes := 0

/-- The values at the input ports at one rising edge (R241); the clock is the step itself. -/
structure Pins where
  rst : Bool
  inValid : Bool
  inWord : Word
deriving DecidableEq, Repr

/-- No reset and no word. -/
def Pins.idle : Pins := { rst := false, inValid := false, inWord := 0 }

/-- One header word presented (R184). -/
def Pins.present (w : Word) : Pins := { rst := false, inValid := true, inWord := w }

/-- Who drives the ports at the coming edge (log 4). -/
inductive Driver where
  | scanner
  | outside
deriving DecidableEq, Repr

/-- A frame the scanner has collected (R171): the header and the half-open range of its payload bytes. -/
structure Frame where
  atOffset : Nat
  header : FrameHeader
  payloadLo : Nat
  payloadHi : Nat
deriving DecidableEq, Repr

/-- What the scanner has read from the ports for the window it presented: a header with a defined length (R175). -/
structure Sample where
  header : FrameHeader
  length : Nat
deriving DecidableEq, Repr

/-- The scanner's four states (R173, C7). -/
inductive Phase where
  | seeking
  /-- `attempt` (R174), the window, and the result once it has been read (log 17) -/
  | validating (attempt : Nat) (window : Word) (sampled : Option Sample)
  /-- `attempt` (R176) and what led here, for the caller to log (R183; log 19) -/
  | resyncing (attempt : Nat) (cause : ErrorKind)
  | done
deriving DecidableEq, Repr

/-- The Stream Scanner, its byte source and its caller (R170 to R182). -/
structure Scanner where
  phase : Phase
  /-- the stream offset of the next byte not yet consumed (R172) -/
  cursor : Nat
  /-- the total of bytes consumed, skipped ones included (R172) -/
  bytesConsumed : Nat
  /-- the frames in byte order of appearance (R172) -/
  frames : List Frame
  /-- the stream bytes buffered so far, by stream offset (R52, R180) -/
  received : List Byte
  /-- the source has signalled end-of-input (R170) -/
  endOfInput : Bool
  /-- what the source will deliver at the next reads (R53; log 5) -/
  reads : List (List Byte)
  /-- after those reads the source signals end-of-input; otherwise it stays silent (R53; log 5) -/
  sourceEnds : Bool
  /-- the caller is pulling items (R181; log 18) -/
  pulling : Bool
  /-- what the caller will decide at the coming Seeking boundaries, true to pull, false to stop; with none left it stays as it is
  (R181; log 18) -/
  pulls : List Bool
deriving DecidableEq, Repr

/-- A scanner at its start (R173) over a source. -/
def Scanner.start (reads : List (List Byte)) (sourceEnds : Bool) : Scanner where
  phase := .seeking
  cursor := 0
  bytesConsumed := 0
  frames := []
  received := []
  endOfInput := false
  reads := reads
  sourceEnds := sourceEnds
  pulling := true
  pulls := []

/-- The state of the machine: block, ports and host. -/
structure State where
  regs : ResultRegs
  pins : Pins
  driver : Driver
  /-- the port values the outside world drives at the edges after the coming one (log 4) -/
  inputs : List Pins
  host : Scanner
deriving DecidableEq, Repr

/-- The machine right after reset: the registers of R242, no word presented, the scanner at its start over a source that has
delivered nothing (log 6). -/
def State.reset : State where
  regs := ResultRegs.reset
  pins := Pins.idle
  driver := .scanner
  inputs := []
  host := Scanner.start [] false

/-- The result registers before the first reset: unspecified (R242, U15), so every one is a free value (log 8). -/
def ResultRegs.powerUp : ResultRegs where
  outValid := Config.powerUpValue 0 % 2 == 1
  outStatus := BitVec.ofNat 4 (Config.powerUpValue 1)
  hdrVersion := BitVec.ofNat 2 (Config.powerUpValue 2)
  hdrLayer := BitVec.ofNat 2 (Config.powerUpValue 3)
  hdrHasCrc := Config.powerUpValue 4 % 2 == 1
  hdrBitRateBps := BitVec.ofNat Config.brW (Config.powerUpValue 5)
  hdrSampleRateHz := BitVec.ofNat Config.srW (Config.powerUpValue 6)
  hdrPadded := Config.powerUpValue 7 % 2 == 1
  hdrPrivate := Config.powerUpValue 8 % 2 == 1
  hdrChannelMode := BitVec.ofNat 2 (Config.powerUpValue 9)
  hdrJseTag := BitVec.ofNat 2 (Config.powerUpValue 10)
  hdrBandStart := BitVec.ofNat 5 (Config.powerUpValue 11)
  hdrIntensity := Config.powerUpValue 12 % 2 == 1
  hdrMs := Config.powerUpValue 13 % 2 == 1
  hdrCopyrighted := Config.powerUpValue 14 % 2 == 1
  hdrOriginal := Config.powerUpValue 15 % 2 == 1
  hdrEmphasis := BitVec.ofNat 2 (Config.powerUpValue 16)
  lenStatus := BitVec.ofNat 2 (Config.powerUpValue 17)
  lenBytes := BitVec.ofNat Config.lenW (Config.powerUpValue 18)

/-- The machine before its first reset (R242, R244). -/
def State.powerUp : State := { State.reset with regs := ResultRegs.powerUp }

/-- Why the machine stops with a fault. -/
inductive Fault where
  /-- A ROM access whose address names no entry (20_memory R47): raised by the bit-rate and sample-rate rows when they are run over
  registers holding a reserved version or layer code, which gives no column. No clock edge raises it. Safe: the
  spec gives such an access no value. -/
  | unpopulatedRomAddress
deriving DecidableEq, Repr

/-- Why the machine refuses an instruction. -/
inductive Refusal where
  /-- The instruction has no meaning in this model yet; raised by `exec`'s arm. Safe. -/
  | notModelled (mnemonic : String)
  /-- FLEN on a record that breaks the validity rule (42_frame_length R161, U13: "refuse it rather than give it a value"); raised by
  FLEN. No clock edge raises it. Safe: the spec gives it no result. -/
  | invalidRecord
deriving DecidableEq, Repr

/-- What running an instruction, or an edge, ends in. -/
abbrev Answer := Host.Outcome State Fault Refusal

end Sys2Proof.Machine
end

