-- ==== Sys2Proof/Machine/Ops.lean ====
section
/-! DEFINITION. The shared operations on the result registers: writing a header, a length, an error (30_encoding R72 to R74; 60_exceptions R212), and one operation per decode step for the rows of the opcode table (40_header_decoder R102 to R113). -/

namespace Sys2Proof.Machine

/-- Run `k` on the next state; a fault or a refusal ends there. -/
def andThen (a : Answer) (k : State → Answer) : Answer :=
  match a with
  | .next s => k s
  | .fault r => .fault r
  | .refused r => .refused r

/-- Write the result registers. -/
def State.setRegs (s : State) (r : ResultRegs) : State := { s with regs := r }

/-- The four registers of the union (R73). -/
def ResultRegs.withJse (r : ResultRegs) (j : JointStereoExt) : ResultRegs :=
  { r with hdrJseTag := j.tag, hdrBandStart := j.band, hdrIntensity := j.intensity, hdrMs := j.ms }

/-- `hdr_* = encode(h)` (R243, R72 to R74): all fifteen header registers. -/
def ResultRegs.withHeader (r : ResultRegs) (h : FrameHeader) : ResultRegs :=
  { r with
    hdrVersion := h.version.code
    hdrLayer := h.layer.code
    hdrHasCrc := h.hasCrc
    hdrBitRateBps := BitVec.ofNat Config.brW h.bitRateBps
    hdrSampleRateHz := BitVec.ofNat Config.srW h.sampleRateHz
    hdrPadded := h.padded
    hdrPrivate := h.privateBit
    hdrChannelMode := h.channelMode.code
    hdrJseTag := h.jointStereoExt.tag
    hdrBandStart := h.jointStereoExt.band
    hdrIntensity := h.jointStereoExt.intensity
    hdrMs := h.jointStereoExt.ms
    hdrCopyrighted := h.copyrighted
    hdrOriginal := h.original
    hdrEmphasis := h.emphasis.code }

/-- The result of a word that gave a header is on the outputs (R25, R27). -/
def ResultRegs.accepted (r : ResultRegs) : ResultRegs :=
  { r with outValid := true, outStatus := statusOk }

/-- The length registers (R28) for what `FLEN` returned. -/
def ResultRegs.withLength (r : ResultRegs) (l : Except LengthError Nat) : ResultRegs :=
  match l with
  | .ok n => { r with lenStatus := lenStatusOk, lenBytes := BitVec.ofNat Config.lenW n }
  | .error .undefinedFrameLength => { r with lenStatus := lenStatusUndefined, lenBytes := 0 }

/-- The whole register bank of a word that gave an error (R29, R212). -/
def ResultRegs.ofError (e : HeaderError) : ResultRegs :=
  { ResultRegs.reset with outValid := true, outStatus := e.code, lenStatus := lenStatusNoHeader }

/-- The header the registers hold (R26, R72, R73), none where a register holds a reserved code (R22, R29). -/
def ResultRegs.header? (r : ResultRegs) : Option FrameHeader :=
  match decodeVersion r.hdrVersion, decodeLayer r.hdrLayer, decodeEmphasis r.hdrEmphasis,
      jointStereoExtOf r.hdrJseTag r.hdrBandStart r.hdrIntensity r.hdrMs with
  | .ok version, .ok layer, .ok emphasis, some jointStereoExt =>
    some { version, layer, hasCrc := r.hdrHasCrc, bitRateBps := r.hdrBitRateBps.toNat,
           sampleRateHz := r.hdrSampleRateHz.toNat, padded := r.hdrPadded, privateBit := r.hdrPrivate,
           channelMode := decodeMode r.hdrChannelMode, jointStereoExt, copyrighted := r.hdrCopyrighted,
           original := r.hdrOriginal, emphasis }
  | _, _, _, _ => none

/-- TAKING AN ERROR, the block's only exception (R212): the result registers are written with the error's code and no header, and
nothing else changes. There is no vector, no saved state and no return (R213): the next word overwrites the result. -/
def raiseError (e : HeaderError) (s : State) : Answer := .next (s.setRegs (.ofError e))

/-- Finish a decode step (R114): write its registers, or take its error. -/
def writeOrRaise {α : Type} (v : Except HeaderError α) (write : ResultRegs → α → ResultRegs) (s : State) : Answer :=
  match v with
  | .ok a => .next (s.setRegs (write s.regs a))
  | .error e => raiseError e s

/-- Step 2 with a given code (R103). -/
def versionRow (code : BitVec 2) (s : State) : Answer :=
  writeOrRaise (decodeVersion code) (fun r v => { r with hdrVersion := v.code }) s

/-- Step 3 with a given code (R104). -/
def layerRow (code : BitVec 2) (s : State) : Answer :=
  writeOrRaise (decodeLayer code) (fun r l => { r with hdrLayer := l.code }) s

/-- Step 3a with a given bit (R113). -/
def protectionRow (bit : BitVec 1) (s : State) : Answer :=
  .next (s.setRegs { s.regs with hdrHasCrc := decodeProtection bit })

/-- Step 4 with a given index (R105): 0 and 15 read no table (at 0 that is a DESIGN CHOICE, log 25); the others read the column of the version and layer that steps 2 and 3
left in the registers, and fault where those are reserved codes, which name no column (R47). -/
def bitrateRow (idx : BitVec 4) (s : State) : Answer :=
  if idx = 0b0000#4 then .next (s.setRegs { s.regs with hdrBitRateBps := 0 })
  else if idx = 0b1111#4 then raiseError .invalidBitrateIndex s
  else
    match decodeVersion s.regs.hdrVersion, decodeLayer s.regs.hdrLayer with
    | .ok v, .ok l =>
      writeOrRaise (decodeBitrate Config.roms v l idx)
        (fun r bps => { r with hdrBitRateBps := BitVec.ofNat Config.brW bps }) s
    | _, _ => .fault .unpopulatedRomAddress

/-- Step 5 with a given index (R106), keyed by the version that step 2 left in the registers. -/
def srateRow (sidx : BitVec 2) (s : State) : Answer :=
  if sidx = 0b11#2 then raiseError .reservedSampleRate s
  else
    match decodeVersion s.regs.hdrVersion with
    | .ok v =>
      writeOrRaise (decodeSampleRate Config.roms v sidx)
        (fun r hz => { r with hdrSampleRateHz := BitVec.ofNat Config.srW hz }) s
    | .error _ => .fault .unpopulatedRomAddress

/-- Step 6, first bit (R107). -/
def paddingRow (bit : BitVec 1) (s : State) : Answer :=
  .next (s.setRegs { s.regs with hdrPadded := decodeFlag bit })

/-- Step 6, second bit (R107). -/
def privateBitRow (bit : BitVec 1) (s : State) : Answer :=
  .next (s.setRegs { s.regs with hdrPrivate := decodeFlag bit })

/-- Step 7 with a given code (R108). -/
def modeRow (code : BitVec 2) (s : State) : Answer :=
  .next (s.setRegs { s.regs with hdrChannelMode := (decodeMode code).code })

/-- Step 8 in a given context (R109). -/
def modeExtRow (m : ChannelMode) (l : Layer) (x : BitVec 2) (s : State) : Answer :=
  .next (s.setRegs (s.regs.withJse (decodeModeExt m l x)))

/-- Step 9, first bit (R110). -/
def copyrightRow (bit : BitVec 1) (s : State) : Answer :=
  .next (s.setRegs { s.regs with hdrCopyrighted := decodeFlag bit })

/-- Step 9, second bit (R110). -/
def originalRow (bit : BitVec 1) (s : State) : Answer :=
  .next (s.setRegs { s.regs with hdrOriginal := decodeFlag bit })

/-- Step 10 with a given code (R111). -/
def emphasisRow (code : BitVec 2) (s : State) : Answer :=
  writeOrRaise (decodeEmphasis code) (fun r e => { r with hdrEmphasis := e.code }) s

/-- Step 11 on a given Layer II pair (R112): the error, or nothing. -/
def layerIIRow (bitRateBps : Nat) (m : ChannelMode) (s : State) : Answer :=
  writeOrRaise (checkLayerII .layerII bitRateBps m) (fun r _ => r) s

end Sys2Proof.Machine
end

