-- ==== Sys2Proof/Machine/FlagRows.lean ====
section
/-! DEFINITION. The meanings of the padding, private, copyright, original and emphasis code points (40_header_decoder R107, R110, R111). Each is its decode step at the code the row gives (log 9). -/

namespace Sys2Proof.Machine

/-- padding.0 (R107): padded = false. -/
def execPadding0 (s : State) : Answer := paddingRow 0b0#1 s

/-- padding.1 (R107): padded = true. -/
def execPadding1 (s : State) : Answer := paddingRow 0b1#1 s

/-- private.0 (R107): private = false. -/
def execPrivateBit0 (s : State) : Answer := privateBitRow 0b0#1 s

/-- private.1 (R107): private = true. -/
def execPrivateBit1 (s : State) : Answer := privateBitRow 0b1#1 s

/-- copyright.0 (R110): copyrighted = false. -/
def execCopyright0 (s : State) : Answer := copyrightRow 0b0#1 s

/-- copyright.1 (R110): copyrighted = true. -/
def execCopyright1 (s : State) : Answer := copyrightRow 0b1#1 s

/-- original.0 (R110): original = false. -/
def execOriginal0 (s : State) : Answer := originalRow 0b0#1 s

/-- original.1 (R110): original = true. -/
def execOriginal1 (s : State) : Answer := originalRow 0b1#1 s

/-- emphasis.None (R111): emphasis = None. -/
def execEmphasisNone (s : State) : Answer := emphasisRow 0b00#2 s

/-- emphasis.Ms5015 (R111): emphasis = Ms5015. -/
def execEmphasisMs5015 (s : State) : Answer := emphasisRow 0b01#2 s

/-- emphasis.reserved (R111): reserved: error ReservedEmphasis (code 6). -/
def execEmphasisReserved (s : State) : Answer := emphasisRow 0b10#2 s

/-- emphasis.CcitJ17 (R111): emphasis = CcitJ17. -/
def execEmphasisCcitJ17 (s : State) : Answer := emphasisRow 0b11#2 s

end Sys2Proof.Machine
end

