-- ==== Sys2Proof/Machine/LayerIIRows.lean ====
section
/-! DEFINITION. The meanings of the prohibited Layer II patterns (40_header_decoder R112; log 15). Each is its decode step at the code the row gives (log 9). -/

namespace Sys2Proof.Machine

/-- l2check.MPEG1.32k.Stereo (R112): Layer II, 32 kbps, Stereo: error ProhibitedBitrateChannelCombination (code 7) unless an earlier step fails. -/
def execL2checkMpeg1Rate32kStereo (s : State) : Answer := layerIIRow 32000 .stereo s

/-- l2check.MPEG1.32k.JointStereo (R112): Layer II, 32 kbps, JointStereo: error ProhibitedBitrateChannelCombination (code 7) unless an earlier step fails. -/
def execL2checkMpeg1Rate32kJointStereo (s : State) : Answer := layerIIRow 32000 .jointStereo s

/-- l2check.MPEG1.32k.DualChannel (R112): Layer II, 32 kbps, DualChannel: error ProhibitedBitrateChannelCombination (code 7) unless an earlier step fails. -/
def execL2checkMpeg1Rate32kDualChannel (s : State) : Answer := layerIIRow 32000 .dualChannel s

/-- l2check.MPEG1.48k.Stereo (R112): Layer II, 48 kbps, Stereo: error ProhibitedBitrateChannelCombination (code 7) unless an earlier step fails. -/
def execL2checkMpeg1Rate48kStereo (s : State) : Answer := layerIIRow 48000 .stereo s

/-- l2check.MPEG1.48k.JointStereo (R112): Layer II, 48 kbps, JointStereo: error ProhibitedBitrateChannelCombination (code 7) unless an earlier step fails. -/
def execL2checkMpeg1Rate48kJointStereo (s : State) : Answer := layerIIRow 48000 .jointStereo s

/-- l2check.MPEG1.48k.DualChannel (R112): Layer II, 48 kbps, DualChannel: error ProhibitedBitrateChannelCombination (code 7) unless an earlier step fails. -/
def execL2checkMpeg1Rate48kDualChannel (s : State) : Answer := layerIIRow 48000 .dualChannel s

/-- l2check.MPEG1.56k.Stereo (R112): Layer II, 56 kbps, Stereo: error ProhibitedBitrateChannelCombination (code 7) unless an earlier step fails. -/
def execL2checkMpeg1Rate56kStereo (s : State) : Answer := layerIIRow 56000 .stereo s

/-- l2check.MPEG1.56k.JointStereo (R112): Layer II, 56 kbps, JointStereo: error ProhibitedBitrateChannelCombination (code 7) unless an earlier step fails. -/
def execL2checkMpeg1Rate56kJointStereo (s : State) : Answer := layerIIRow 56000 .jointStereo s

/-- l2check.MPEG1.56k.DualChannel (R112): Layer II, 56 kbps, DualChannel: error ProhibitedBitrateChannelCombination (code 7) unless an earlier step fails. -/
def execL2checkMpeg1Rate56kDualChannel (s : State) : Answer := layerIIRow 56000 .dualChannel s

/-- l2check.MPEG1.80k.Stereo (R112): Layer II, 80 kbps, Stereo: error ProhibitedBitrateChannelCombination (code 7) unless an earlier step fails. -/
def execL2checkMpeg1Rate80kStereo (s : State) : Answer := layerIIRow 80000 .stereo s

/-- l2check.MPEG1.80k.JointStereo (R112): Layer II, 80 kbps, JointStereo: error ProhibitedBitrateChannelCombination (code 7) unless an earlier step fails. -/
def execL2checkMpeg1Rate80kJointStereo (s : State) : Answer := layerIIRow 80000 .jointStereo s

/-- l2check.MPEG1.80k.DualChannel (R112): Layer II, 80 kbps, DualChannel: error ProhibitedBitrateChannelCombination (code 7) unless an earlier step fails. -/
def execL2checkMpeg1Rate80kDualChannel (s : State) : Answer := layerIIRow 80000 .dualChannel s

/-- l2check.MPEG1.224k.SingleChannel (R112): Layer II, 224 kbps, SingleChannel: error ProhibitedBitrateChannelCombination (code 7) unless an earlier step fails. -/
def execL2checkMpeg1Rate224kSingleChannel (s : State) : Answer := layerIIRow 224000 .singleChannel s

/-- l2check.MPEG1.256k.SingleChannel (R112): Layer II, 256 kbps, SingleChannel: error ProhibitedBitrateChannelCombination (code 7) unless an earlier step fails. -/
def execL2checkMpeg1Rate256kSingleChannel (s : State) : Answer := layerIIRow 256000 .singleChannel s

/-- l2check.MPEG1.320k.SingleChannel (R112): Layer II, 320 kbps, SingleChannel: error ProhibitedBitrateChannelCombination (code 7) unless an earlier step fails. -/
def execL2checkMpeg1Rate320kSingleChannel (s : State) : Answer := layerIIRow 320000 .singleChannel s

/-- l2check.MPEG1.384k.SingleChannel (R112): Layer II, 384 kbps, SingleChannel: error ProhibitedBitrateChannelCombination (code 7) unless an earlier step fails. -/
def execL2checkMpeg1Rate384kSingleChannel (s : State) : Answer := layerIIRow 384000 .singleChannel s

/-- l2check.MPEG2.32k.Stereo (R112): Layer II, 32 kbps, Stereo: error ProhibitedBitrateChannelCombination (code 7) unless an earlier step fails. -/
def execL2checkMpeg2Rate32kStereo (s : State) : Answer := layerIIRow 32000 .stereo s

/-- l2check.MPEG2.32k.JointStereo (R112): Layer II, 32 kbps, JointStereo: error ProhibitedBitrateChannelCombination (code 7) unless an earlier step fails. -/
def execL2checkMpeg2Rate32kJointStereo (s : State) : Answer := layerIIRow 32000 .jointStereo s

/-- l2check.MPEG2.32k.DualChannel (R112): Layer II, 32 kbps, DualChannel: error ProhibitedBitrateChannelCombination (code 7) unless an earlier step fails. -/
def execL2checkMpeg2Rate32kDualChannel (s : State) : Answer := layerIIRow 32000 .dualChannel s

/-- l2check.MPEG2.48k.Stereo (R112): Layer II, 48 kbps, Stereo: error ProhibitedBitrateChannelCombination (code 7) unless an earlier step fails. -/
def execL2checkMpeg2Rate48kStereo (s : State) : Answer := layerIIRow 48000 .stereo s

/-- l2check.MPEG2.48k.JointStereo (R112): Layer II, 48 kbps, JointStereo: error ProhibitedBitrateChannelCombination (code 7) unless an earlier step fails. -/
def execL2checkMpeg2Rate48kJointStereo (s : State) : Answer := layerIIRow 48000 .jointStereo s

/-- l2check.MPEG2.48k.DualChannel (R112): Layer II, 48 kbps, DualChannel: error ProhibitedBitrateChannelCombination (code 7) unless an earlier step fails. -/
def execL2checkMpeg2Rate48kDualChannel (s : State) : Answer := layerIIRow 48000 .dualChannel s

/-- l2check.MPEG2.56k.Stereo (R112): Layer II, 56 kbps, Stereo: error ProhibitedBitrateChannelCombination (code 7) unless an earlier step fails. -/
def execL2checkMpeg2Rate56kStereo (s : State) : Answer := layerIIRow 56000 .stereo s

/-- l2check.MPEG2.56k.JointStereo (R112): Layer II, 56 kbps, JointStereo: error ProhibitedBitrateChannelCombination (code 7) unless an earlier step fails. -/
def execL2checkMpeg2Rate56kJointStereo (s : State) : Answer := layerIIRow 56000 .jointStereo s

/-- l2check.MPEG2.56k.DualChannel (R112): Layer II, 56 kbps, DualChannel: error ProhibitedBitrateChannelCombination (code 7) unless an earlier step fails. -/
def execL2checkMpeg2Rate56kDualChannel (s : State) : Answer := layerIIRow 56000 .dualChannel s

/-- l2check.MPEG2.80k.Stereo (R112): Layer II, 80 kbps, Stereo: error ProhibitedBitrateChannelCombination (code 7) unless an earlier step fails. -/
def execL2checkMpeg2Rate80kStereo (s : State) : Answer := layerIIRow 80000 .stereo s

/-- l2check.MPEG2.80k.JointStereo (R112): Layer II, 80 kbps, JointStereo: error ProhibitedBitrateChannelCombination (code 7) unless an earlier step fails. -/
def execL2checkMpeg2Rate80kJointStereo (s : State) : Answer := layerIIRow 80000 .jointStereo s

/-- l2check.MPEG2.80k.DualChannel (R112): Layer II, 80 kbps, DualChannel: error ProhibitedBitrateChannelCombination (code 7) unless an earlier step fails. -/
def execL2checkMpeg2Rate80kDualChannel (s : State) : Answer := layerIIRow 80000 .dualChannel s

/-- l2check.MPEG2.5.32k.Stereo (R112): Layer II, 32 kbps, Stereo: error ProhibitedBitrateChannelCombination (code 7) unless an earlier step fails. -/
def execL2checkMpeg25Rate32kStereo (s : State) : Answer := layerIIRow 32000 .stereo s

/-- l2check.MPEG2.5.32k.JointStereo (R112): Layer II, 32 kbps, JointStereo: error ProhibitedBitrateChannelCombination (code 7) unless an earlier step fails. -/
def execL2checkMpeg25Rate32kJointStereo (s : State) : Answer := layerIIRow 32000 .jointStereo s

/-- l2check.MPEG2.5.32k.DualChannel (R112): Layer II, 32 kbps, DualChannel: error ProhibitedBitrateChannelCombination (code 7) unless an earlier step fails. -/
def execL2checkMpeg25Rate32kDualChannel (s : State) : Answer := layerIIRow 32000 .dualChannel s

/-- l2check.MPEG2.5.48k.Stereo (R112): Layer II, 48 kbps, Stereo: error ProhibitedBitrateChannelCombination (code 7) unless an earlier step fails. -/
def execL2checkMpeg25Rate48kStereo (s : State) : Answer := layerIIRow 48000 .stereo s

/-- l2check.MPEG2.5.48k.JointStereo (R112): Layer II, 48 kbps, JointStereo: error ProhibitedBitrateChannelCombination (code 7) unless an earlier step fails. -/
def execL2checkMpeg25Rate48kJointStereo (s : State) : Answer := layerIIRow 48000 .jointStereo s

/-- l2check.MPEG2.5.48k.DualChannel (R112): Layer II, 48 kbps, DualChannel: error ProhibitedBitrateChannelCombination (code 7) unless an earlier step fails. -/
def execL2checkMpeg25Rate48kDualChannel (s : State) : Answer := layerIIRow 48000 .dualChannel s

/-- l2check.MPEG2.5.56k.Stereo (R112): Layer II, 56 kbps, Stereo: error ProhibitedBitrateChannelCombination (code 7) unless an earlier step fails. -/
def execL2checkMpeg25Rate56kStereo (s : State) : Answer := layerIIRow 56000 .stereo s

/-- l2check.MPEG2.5.56k.JointStereo (R112): Layer II, 56 kbps, JointStereo: error ProhibitedBitrateChannelCombination (code 7) unless an earlier step fails. -/
def execL2checkMpeg25Rate56kJointStereo (s : State) : Answer := layerIIRow 56000 .jointStereo s

/-- l2check.MPEG2.5.56k.DualChannel (R112): Layer II, 56 kbps, DualChannel: error ProhibitedBitrateChannelCombination (code 7) unless an earlier step fails. -/
def execL2checkMpeg25Rate56kDualChannel (s : State) : Answer := layerIIRow 56000 .dualChannel s

/-- l2check.MPEG2.5.80k.Stereo (R112): Layer II, 80 kbps, Stereo: error ProhibitedBitrateChannelCombination (code 7) unless an earlier step fails. -/
def execL2checkMpeg25Rate80kStereo (s : State) : Answer := layerIIRow 80000 .stereo s

/-- l2check.MPEG2.5.80k.JointStereo (R112): Layer II, 80 kbps, JointStereo: error ProhibitedBitrateChannelCombination (code 7) unless an earlier step fails. -/
def execL2checkMpeg25Rate80kJointStereo (s : State) : Answer := layerIIRow 80000 .jointStereo s

/-- l2check.MPEG2.5.80k.DualChannel (R112): Layer II, 80 kbps, DualChannel: error ProhibitedBitrateChannelCombination (code 7) unless an earlier step fails. -/
def execL2checkMpeg25Rate80kDualChannel (s : State) : Answer := layerIIRow 80000 .dualChannel s

end Sys2Proof.Machine
end

