-- ==== Sys2Proof/Machine/ModeRows.lean ====
section
/-! DEFINITION. The meanings of the channel-mode and mode-extension code points (40_header_decoder R108, R109). Each is its decode step at the code the row gives (log 9). -/

namespace Sys2Proof.Machine

/-- mode.Stereo (R108): channel_mode = Stereo. -/
def execModeStereo (s : State) : Answer := modeRow 0b00#2 s

/-- mode.JointStereo (R108): channel_mode = JointStereo. -/
def execModeJointStereo (s : State) : Answer := modeRow 0b01#2 s

/-- mode.DualChannel (R108): channel_mode = DualChannel. -/
def execModeDualChannel (s : State) : Answer := modeRow 0b10#2 s

/-- mode.SingleChannel (R108): channel_mode = SingleChannel. -/
def execModeSingleChannel (s : State) : Answer := modeRow 0b11#2 s

/-- mode_ext.JS.LayerI.0 (R109): jse = BandStart(4). -/
def execModeExtJsLayerI0 (s : State) : Answer := modeExtRow .jointStereo .layerI 0b00#2 s

/-- mode_ext.JS.LayerI.1 (R109): jse = BandStart(8). -/
def execModeExtJsLayerI1 (s : State) : Answer := modeExtRow .jointStereo .layerI 0b01#2 s

/-- mode_ext.JS.LayerI.2 (R109): jse = BandStart(12). -/
def execModeExtJsLayerI2 (s : State) : Answer := modeExtRow .jointStereo .layerI 0b10#2 s

/-- mode_ext.JS.LayerI.3 (R109): jse = BandStart(16). -/
def execModeExtJsLayerI3 (s : State) : Answer := modeExtRow .jointStereo .layerI 0b11#2 s

/-- mode_ext.JS.LayerII.0 (R109): jse = BandStart(4). -/
def execModeExtJsLayerII0 (s : State) : Answer := modeExtRow .jointStereo .layerII 0b00#2 s

/-- mode_ext.JS.LayerII.1 (R109): jse = BandStart(8). -/
def execModeExtJsLayerII1 (s : State) : Answer := modeExtRow .jointStereo .layerII 0b01#2 s

/-- mode_ext.JS.LayerII.2 (R109): jse = BandStart(12). -/
def execModeExtJsLayerII2 (s : State) : Answer := modeExtRow .jointStereo .layerII 0b10#2 s

/-- mode_ext.JS.LayerII.3 (R109): jse = BandStart(16). -/
def execModeExtJsLayerII3 (s : State) : Answer := modeExtRow .jointStereo .layerII 0b11#2 s

/-- mode_ext.JS.LayerIII.0 (R109): jse = StereoFlags{intensity=false, ms=false}. -/
def execModeExtJsLayerIII0 (s : State) : Answer := modeExtRow .jointStereo .layerIII 0b00#2 s

/-- mode_ext.JS.LayerIII.1 (R109): jse = StereoFlags{intensity=true, ms=false}. -/
def execModeExtJsLayerIII1 (s : State) : Answer := modeExtRow .jointStereo .layerIII 0b01#2 s

/-- mode_ext.JS.LayerIII.2 (R109): jse = StereoFlags{intensity=false, ms=true}. -/
def execModeExtJsLayerIII2 (s : State) : Answer := modeExtRow .jointStereo .layerIII 0b10#2 s

/-- mode_ext.JS.LayerIII.3 (R109): jse = StereoFlags{intensity=true, ms=true}. -/
def execModeExtJsLayerIII3 (s : State) : Answer := modeExtRow .jointStereo .layerIII 0b11#2 s

/-- mode_ext.ignored.Stereo (R109): jse = None; all four mode_ext codes ignored. -/
def execModeExtIgnoredStereo (s : State) : Answer := modeExtRow .stereo .layerI 0b00#2 s

/-- mode_ext.ignored.DualChannel (R109): jse = None; all four mode_ext codes ignored. -/
def execModeExtIgnoredDualChannel (s : State) : Answer := modeExtRow .dualChannel .layerI 0b00#2 s

/-- mode_ext.ignored.SingleChannel (R109): jse = None; all four mode_ext codes ignored. -/
def execModeExtIgnoredSingleChannel (s : State) : Answer := modeExtRow .singleChannel .layerI 0b00#2 s

end Sys2Proof.Machine
end

