-- ==== Sys2Proof/Machine/Operations.lean ====
section
/-! DEFINITION. The meanings of the two operations, HDEC (40_header_decoder R100) and FLEN (42_frame_length R150). -/

namespace Sys2Proof.Machine

/-- HDEC (R100, R114, R116): the header registers and status 0, or the error and no header. The length registers of an accepted
word are FLEN's to write (R150; log 14). -/
def execHdec (f : HeaderFields) (s : State) : Answer :=
  match hdec Config.roms f with
  | .ok h => .next (s.setRegs (s.regs.withHeader h).accepted)
  | .error e => raiseError e s

/-- FLEN (R150, R155): the length registers of a valid record; a record that is not valid has no result (R161; log 13). -/
def execFlen (h : FrameHeader) (s : State) : Answer :=
  if h.valid Config.roms then .next (s.setRegs (s.regs.withLength (flen Config.roms h)))
  else .refused .invalidRecord

end Sys2Proof.Machine
end

