-- ==== Sys2Proof/Machine/RateRows.lean ====
section
/-! DEFINITION. The meanings of the bit-rate and sample-rate index code points (40_header_decoder R105, R106). Each is its decode step at the code the row gives (log 9). -/

namespace Sys2Proof.Machine

/-- bitrate_idx.0 (R105): free bit rate: bit_rate_bps = 0 in every column. -/
def execBitrateIdx0 (s : State) : Answer := bitrateRow 0b0000#4 s

/-- bitrate_idx.1 (R105): BITRATE_ROM row 1; column by version group and layer (R131). -/
def execBitrateIdx1 (s : State) : Answer := bitrateRow 0b0001#4 s

/-- bitrate_idx.2 (R105): BITRATE_ROM row 2; column by version group and layer (R131). -/
def execBitrateIdx2 (s : State) : Answer := bitrateRow 0b0010#4 s

/-- bitrate_idx.3 (R105): BITRATE_ROM row 3; column by version group and layer (R131). -/
def execBitrateIdx3 (s : State) : Answer := bitrateRow 0b0011#4 s

/-- bitrate_idx.4 (R105): BITRATE_ROM row 4; column by version group and layer (R131). -/
def execBitrateIdx4 (s : State) : Answer := bitrateRow 0b0100#4 s

/-- bitrate_idx.5 (R105): BITRATE_ROM row 5; column by version group and layer (R131). -/
def execBitrateIdx5 (s : State) : Answer := bitrateRow 0b0101#4 s

/-- bitrate_idx.6 (R105): BITRATE_ROM row 6; column by version group and layer (R131). -/
def execBitrateIdx6 (s : State) : Answer := bitrateRow 0b0110#4 s

/-- bitrate_idx.7 (R105): BITRATE_ROM row 7; column by version group and layer (R131). -/
def execBitrateIdx7 (s : State) : Answer := bitrateRow 0b0111#4 s

/-- bitrate_idx.8 (R105): BITRATE_ROM row 8; column by version group and layer (R131). -/
def execBitrateIdx8 (s : State) : Answer := bitrateRow 0b1000#4 s

/-- bitrate_idx.9 (R105): BITRATE_ROM row 9; column by version group and layer (R131). -/
def execBitrateIdx9 (s : State) : Answer := bitrateRow 0b1001#4 s

/-- bitrate_idx.10 (R105): BITRATE_ROM row 10; column by version group and layer (R131). -/
def execBitrateIdx10 (s : State) : Answer := bitrateRow 0b1010#4 s

/-- bitrate_idx.11 (R105): BITRATE_ROM row 11; column by version group and layer (R131). -/
def execBitrateIdx11 (s : State) : Answer := bitrateRow 0b1011#4 s

/-- bitrate_idx.12 (R105): BITRATE_ROM row 12; column by version group and layer (R131). -/
def execBitrateIdx12 (s : State) : Answer := bitrateRow 0b1100#4 s

/-- bitrate_idx.13 (R105): BITRATE_ROM row 13; column by version group and layer (R131). -/
def execBitrateIdx13 (s : State) : Answer := bitrateRow 0b1101#4 s

/-- bitrate_idx.14 (R105): BITRATE_ROM row 14; column by version group and layer (R131). -/
def execBitrateIdx14 (s : State) : Answer := bitrateRow 0b1110#4 s

/-- bitrate_idx.15 (R105): invalid: error InvalidBitrateIndex (code 4); no ROM row. -/
def execBitrateIdx15 (s : State) : Answer := bitrateRow 0b1111#4 s

/-- srate_idx.0 (R106): SAMPLERATE_ROM row 0; column by version. -/
def execSrateIdx0 (s : State) : Answer := srateRow 0b00#2 s

/-- srate_idx.1 (R106): SAMPLERATE_ROM row 1; column by version. -/
def execSrateIdx1 (s : State) : Answer := srateRow 0b01#2 s

/-- srate_idx.2 (R106): SAMPLERATE_ROM row 2; column by version. -/
def execSrateIdx2 (s : State) : Answer := srateRow 0b10#2 s

/-- srate_idx.3 (R106): reserved: error ReservedSampleRate (code 5); no ROM row. -/
def execSrateIdx3 (s : State) : Answer := srateRow 0b11#2 s

end Sys2Proof.Machine
end

