-- ==== Sys2Proof/Machine/VersionLayerRows.lean ====
section
/-! DEFINITION. The meanings of the version, layer and protection code points (40_header_decoder R103, R104, R113). Each is its decode step at the code the row gives (log 9). -/

namespace Sys2Proof.Machine

/-- version.MPEG2_5 (R103): MPEG2.5; vcol 2; version group MPEG2/2.5. -/
def execVersionMpeg25 (s : State) : Answer := versionRow 0b00#2 s

/-- version.reserved (R103): reserved: error ReservedVersion (code 2). -/
def execVersionReserved (s : State) : Answer := versionRow 0b01#2 s

/-- version.MPEG2 (R103): MPEG2; vcol 1; version group MPEG2/2.5. -/
def execVersionMpeg2 (s : State) : Answer := versionRow 0b10#2 s

/-- version.MPEG1 (R103): MPEG1; vcol 0; version group MPEG1. -/
def execVersionMpeg1 (s : State) : Answer := versionRow 0b11#2 s

/-- layer.reserved (R104): reserved: error ReservedLayer (code 3). -/
def execLayerReserved (s : State) : Answer := layerRow 0b00#2 s

/-- layer.III (R104): Layer III; lrow 2. -/
def execLayerIII (s : State) : Answer := layerRow 0b01#2 s

/-- layer.II (R104): Layer II; lrow 1. -/
def execLayerII (s : State) : Answer := layerRow 0b10#2 s

/-- layer.I (R104): Layer I; lrow 0. -/
def execLayerI (s : State) : Answer := layerRow 0b11#2 s

/-- protection.protected (R113): has_crc = true (inverted polarity). -/
def execProtectionProtected (s : State) : Answer := protectionRow 0b0#1 s

/-- protection.unprotected (R113): has_crc = false. -/
def execProtectionUnprotected (s : State) : Answer := protectionRow 0b1#1 s

end Sys2Proof.Machine
end

