-- ==== Sys2Proof/Machine/Dispatch.lean ====
section
/-! DEFINITION. Dispatch: one arm per row of the opcode table. -/

namespace Sys2Proof.Machine

def exec (i : Instr) (s : State) : Host.Outcome State Fault Refusal :=
  match i with
  | .hdec f => Sys2Proof.Machine.execHdec f s
  | .flen h => Sys2Proof.Machine.execFlen h s
  | .versionMpeg25 => Sys2Proof.Machine.execVersionMpeg25 s
  | .versionReserved => Sys2Proof.Machine.execVersionReserved s
  | .versionMpeg2 => Sys2Proof.Machine.execVersionMpeg2 s
  | .versionMpeg1 => Sys2Proof.Machine.execVersionMpeg1 s
  | .layerReserved => Sys2Proof.Machine.execLayerReserved s
  | .layerIII => Sys2Proof.Machine.execLayerIII s
  | .layerII => Sys2Proof.Machine.execLayerII s
  | .layerI => Sys2Proof.Machine.execLayerI s
  | .protectionProtected => Sys2Proof.Machine.execProtectionProtected s
  | .protectionUnprotected => Sys2Proof.Machine.execProtectionUnprotected s
  | .bitrateIdx0 => Sys2Proof.Machine.execBitrateIdx0 s
  | .bitrateIdx1 => Sys2Proof.Machine.execBitrateIdx1 s
  | .bitrateIdx2 => Sys2Proof.Machine.execBitrateIdx2 s
  | .bitrateIdx3 => Sys2Proof.Machine.execBitrateIdx3 s
  | .bitrateIdx4 => Sys2Proof.Machine.execBitrateIdx4 s
  | .bitrateIdx5 => Sys2Proof.Machine.execBitrateIdx5 s
  | .bitrateIdx6 => Sys2Proof.Machine.execBitrateIdx6 s
  | .bitrateIdx7 => Sys2Proof.Machine.execBitrateIdx7 s
  | .bitrateIdx8 => Sys2Proof.Machine.execBitrateIdx8 s
  | .bitrateIdx9 => Sys2Proof.Machine.execBitrateIdx9 s
  | .bitrateIdx10 => Sys2Proof.Machine.execBitrateIdx10 s
  | .bitrateIdx11 => Sys2Proof.Machine.execBitrateIdx11 s
  | .bitrateIdx12 => Sys2Proof.Machine.execBitrateIdx12 s
  | .bitrateIdx13 => Sys2Proof.Machine.execBitrateIdx13 s
  | .bitrateIdx14 => Sys2Proof.Machine.execBitrateIdx14 s
  | .bitrateIdx15 => Sys2Proof.Machine.execBitrateIdx15 s
  | .srateIdx0 => Sys2Proof.Machine.execSrateIdx0 s
  | .srateIdx1 => Sys2Proof.Machine.execSrateIdx1 s
  | .srateIdx2 => Sys2Proof.Machine.execSrateIdx2 s
  | .srateIdx3 => Sys2Proof.Machine.execSrateIdx3 s
  | .padding0 => Sys2Proof.Machine.execPadding0 s
  | .padding1 => Sys2Proof.Machine.execPadding1 s
  | .privateBit0 => Sys2Proof.Machine.execPrivateBit0 s
  | .privateBit1 => Sys2Proof.Machine.execPrivateBit1 s
  | .modeStereo => Sys2Proof.Machine.execModeStereo s
  | .modeJointStereo => Sys2Proof.Machine.execModeJointStereo s
  | .modeDualChannel => Sys2Proof.Machine.execModeDualChannel s
  | .modeSingleChannel => Sys2Proof.Machine.execModeSingleChannel s
  | .modeExtJsLayerI0 => Sys2Proof.Machine.execModeExtJsLayerI0 s
  | .modeExtJsLayerI1 => Sys2Proof.Machine.execModeExtJsLayerI1 s
  | .modeExtJsLayerI2 => Sys2Proof.Machine.execModeExtJsLayerI2 s
  | .modeExtJsLayerI3 => Sys2Proof.Machine.execModeExtJsLayerI3 s
  | .modeExtJsLayerII0 => Sys2Proof.Machine.execModeExtJsLayerII0 s
  | .modeExtJsLayerII1 => Sys2Proof.Machine.execModeExtJsLayerII1 s
  | .modeExtJsLayerII2 => Sys2Proof.Machine.execModeExtJsLayerII2 s
  | .modeExtJsLayerII3 => Sys2Proof.Machine.execModeExtJsLayerII3 s
  | .modeExtJsLayerIII0 => Sys2Proof.Machine.execModeExtJsLayerIII0 s
  | .modeExtJsLayerIII1 => Sys2Proof.Machine.execModeExtJsLayerIII1 s
  | .modeExtJsLayerIII2 => Sys2Proof.Machine.execModeExtJsLayerIII2 s
  | .modeExtJsLayerIII3 => Sys2Proof.Machine.execModeExtJsLayerIII3 s
  | .modeExtIgnoredStereo => Sys2Proof.Machine.execModeExtIgnoredStereo s
  | .modeExtIgnoredDualChannel => Sys2Proof.Machine.execModeExtIgnoredDualChannel s
  | .modeExtIgnoredSingleChannel => Sys2Proof.Machine.execModeExtIgnoredSingleChannel s
  | .copyright0 => Sys2Proof.Machine.execCopyright0 s
  | .copyright1 => Sys2Proof.Machine.execCopyright1 s
  | .original0 => Sys2Proof.Machine.execOriginal0 s
  | .original1 => Sys2Proof.Machine.execOriginal1 s
  | .emphasisNone => Sys2Proof.Machine.execEmphasisNone s
  | .emphasisMs5015 => Sys2Proof.Machine.execEmphasisMs5015 s
  | .emphasisReserved => Sys2Proof.Machine.execEmphasisReserved s
  | .emphasisCcitJ17 => Sys2Proof.Machine.execEmphasisCcitJ17 s
  | .l2checkMpeg1Rate32kStereo => Sys2Proof.Machine.execL2checkMpeg1Rate32kStereo s
  | .l2checkMpeg1Rate32kJointStereo => Sys2Proof.Machine.execL2checkMpeg1Rate32kJointStereo s
  | .l2checkMpeg1Rate32kDualChannel => Sys2Proof.Machine.execL2checkMpeg1Rate32kDualChannel s
  | .l2checkMpeg1Rate48kStereo => Sys2Proof.Machine.execL2checkMpeg1Rate48kStereo s
  | .l2checkMpeg1Rate48kJointStereo => Sys2Proof.Machine.execL2checkMpeg1Rate48kJointStereo s
  | .l2checkMpeg1Rate48kDualChannel => Sys2Proof.Machine.execL2checkMpeg1Rate48kDualChannel s
  | .l2checkMpeg1Rate56kStereo => Sys2Proof.Machine.execL2checkMpeg1Rate56kStereo s
  | .l2checkMpeg1Rate56kJointStereo => Sys2Proof.Machine.execL2checkMpeg1Rate56kJointStereo s
  | .l2checkMpeg1Rate56kDualChannel => Sys2Proof.Machine.execL2checkMpeg1Rate56kDualChannel s
  | .l2checkMpeg1Rate80kStereo => Sys2Proof.Machine.execL2checkMpeg1Rate80kStereo s
  | .l2checkMpeg1Rate80kJointStereo => Sys2Proof.Machine.execL2checkMpeg1Rate80kJointStereo s
  | .l2checkMpeg1Rate80kDualChannel => Sys2Proof.Machine.execL2checkMpeg1Rate80kDualChannel s
  | .l2checkMpeg1Rate224kSingleChannel => Sys2Proof.Machine.execL2checkMpeg1Rate224kSingleChannel s
  | .l2checkMpeg1Rate256kSingleChannel => Sys2Proof.Machine.execL2checkMpeg1Rate256kSingleChannel s
  | .l2checkMpeg1Rate320kSingleChannel => Sys2Proof.Machine.execL2checkMpeg1Rate320kSingleChannel s
  | .l2checkMpeg1Rate384kSingleChannel => Sys2Proof.Machine.execL2checkMpeg1Rate384kSingleChannel s
  | .l2checkMpeg2Rate32kStereo => Sys2Proof.Machine.execL2checkMpeg2Rate32kStereo s
  | .l2checkMpeg2Rate32kJointStereo => Sys2Proof.Machine.execL2checkMpeg2Rate32kJointStereo s
  | .l2checkMpeg2Rate32kDualChannel => Sys2Proof.Machine.execL2checkMpeg2Rate32kDualChannel s
  | .l2checkMpeg2Rate48kStereo => Sys2Proof.Machine.execL2checkMpeg2Rate48kStereo s
  | .l2checkMpeg2Rate48kJointStereo => Sys2Proof.Machine.execL2checkMpeg2Rate48kJointStereo s
  | .l2checkMpeg2Rate48kDualChannel => Sys2Proof.Machine.execL2checkMpeg2Rate48kDualChannel s
  | .l2checkMpeg2Rate56kStereo => Sys2Proof.Machine.execL2checkMpeg2Rate56kStereo s
  | .l2checkMpeg2Rate56kJointStereo => Sys2Proof.Machine.execL2checkMpeg2Rate56kJointStereo s
  | .l2checkMpeg2Rate56kDualChannel => Sys2Proof.Machine.execL2checkMpeg2Rate56kDualChannel s
  | .l2checkMpeg2Rate80kStereo => Sys2Proof.Machine.execL2checkMpeg2Rate80kStereo s
  | .l2checkMpeg2Rate80kJointStereo => Sys2Proof.Machine.execL2checkMpeg2Rate80kJointStereo s
  | .l2checkMpeg2Rate80kDualChannel => Sys2Proof.Machine.execL2checkMpeg2Rate80kDualChannel s
  | .l2checkMpeg25Rate32kStereo => Sys2Proof.Machine.execL2checkMpeg25Rate32kStereo s
  | .l2checkMpeg25Rate32kJointStereo => Sys2Proof.Machine.execL2checkMpeg25Rate32kJointStereo s
  | .l2checkMpeg25Rate32kDualChannel => Sys2Proof.Machine.execL2checkMpeg25Rate32kDualChannel s
  | .l2checkMpeg25Rate48kStereo => Sys2Proof.Machine.execL2checkMpeg25Rate48kStereo s
  | .l2checkMpeg25Rate48kJointStereo => Sys2Proof.Machine.execL2checkMpeg25Rate48kJointStereo s
  | .l2checkMpeg25Rate48kDualChannel => Sys2Proof.Machine.execL2checkMpeg25Rate48kDualChannel s
  | .l2checkMpeg25Rate56kStereo => Sys2Proof.Machine.execL2checkMpeg25Rate56kStereo s
  | .l2checkMpeg25Rate56kJointStereo => Sys2Proof.Machine.execL2checkMpeg25Rate56kJointStereo s
  | .l2checkMpeg25Rate56kDualChannel => Sys2Proof.Machine.execL2checkMpeg25Rate56kDualChannel s
  | .l2checkMpeg25Rate80kStereo => Sys2Proof.Machine.execL2checkMpeg25Rate80kStereo s
  | .l2checkMpeg25Rate80kJointStereo => Sys2Proof.Machine.execL2checkMpeg25Rate80kJointStereo s
  | .l2checkMpeg25Rate80kDualChannel => Sys2Proof.Machine.execL2checkMpeg25Rate80kDualChannel s

end Sys2Proof.Machine
end

