-- ==== Sys2Proof/WellFormed.lean ====
section
/-! DEFINITION. Well-formed instructions. -/

namespace Sys2Proof

/-- An instruction is well formed when it is the one reading of its encoding.
HDEC: a word in which a step after the sync check fails has a row of its own (30_encoding R77) and is that row, not HDEC.
FLEN: its operand is a valid record (42_frame_length R150).
A code-point row or a prohibited pattern has no operand, so nothing to check. -/
def Instr.wf : Instr → Bool
  | .hdec f =>
    match Sys2Proof.hdec Config.roms f with
    | .ok _ => true
    | .error e => e == .syncWordMissing
  | .flen h => h.valid Config.roms
  | .versionMpeg25 => true
  | .versionReserved => true
  | .versionMpeg2 => true
  | .versionMpeg1 => true
  | .layerReserved => true
  | .layerIII => true
  | .layerII => true
  | .layerI => true
  | .protectionProtected => true
  | .protectionUnprotected => true
  | .bitrateIdx0 => true
  | .bitrateIdx1 => true
  | .bitrateIdx2 => true
  | .bitrateIdx3 => true
  | .bitrateIdx4 => true
  | .bitrateIdx5 => true
  | .bitrateIdx6 => true
  | .bitrateIdx7 => true
  | .bitrateIdx8 => true
  | .bitrateIdx9 => true
  | .bitrateIdx10 => true
  | .bitrateIdx11 => true
  | .bitrateIdx12 => true
  | .bitrateIdx13 => true
  | .bitrateIdx14 => true
  | .bitrateIdx15 => true
  | .srateIdx0 => true
  | .srateIdx1 => true
  | .srateIdx2 => true
  | .srateIdx3 => true
  | .padding0 => true
  | .padding1 => true
  | .privateBit0 => true
  | .privateBit1 => true
  | .modeStereo => true
  | .modeJointStereo => true
  | .modeDualChannel => true
  | .modeSingleChannel => true
  | .modeExtJsLayerI0 => true
  | .modeExtJsLayerI1 => true
  | .modeExtJsLayerI2 => true
  | .modeExtJsLayerI3 => true
  | .modeExtJsLayerII0 => true
  | .modeExtJsLayerII1 => true
  | .modeExtJsLayerII2 => true
  | .modeExtJsLayerII3 => true
  | .modeExtJsLayerIII0 => true
  | .modeExtJsLayerIII1 => true
  | .modeExtJsLayerIII2 => true
  | .modeExtJsLayerIII3 => true
  | .modeExtIgnoredStereo => true
  | .modeExtIgnoredDualChannel => true
  | .modeExtIgnoredSingleChannel => true
  | .copyright0 => true
  | .copyright1 => true
  | .original0 => true
  | .original1 => true
  | .emphasisNone => true
  | .emphasisMs5015 => true
  | .emphasisReserved => true
  | .emphasisCcitJ17 => true
  | .l2checkMpeg1Rate32kStereo => true
  | .l2checkMpeg1Rate32kJointStereo => true
  | .l2checkMpeg1Rate32kDualChannel => true
  | .l2checkMpeg1Rate48kStereo => true
  | .l2checkMpeg1Rate48kJointStereo => true
  | .l2checkMpeg1Rate48kDualChannel => true
  | .l2checkMpeg1Rate56kStereo => true
  | .l2checkMpeg1Rate56kJointStereo => true
  | .l2checkMpeg1Rate56kDualChannel => true
  | .l2checkMpeg1Rate80kStereo => true
  | .l2checkMpeg1Rate80kJointStereo => true
  | .l2checkMpeg1Rate80kDualChannel => true
  | .l2checkMpeg1Rate224kSingleChannel => true
  | .l2checkMpeg1Rate256kSingleChannel => true
  | .l2checkMpeg1Rate320kSingleChannel => true
  | .l2checkMpeg1Rate384kSingleChannel => true
  | .l2checkMpeg2Rate32kStereo => true
  | .l2checkMpeg2Rate32kJointStereo => true
  | .l2checkMpeg2Rate32kDualChannel => true
  | .l2checkMpeg2Rate48kStereo => true
  | .l2checkMpeg2Rate48kJointStereo => true
  | .l2checkMpeg2Rate48kDualChannel => true
  | .l2checkMpeg2Rate56kStereo => true
  | .l2checkMpeg2Rate56kJointStereo => true
  | .l2checkMpeg2Rate56kDualChannel => true
  | .l2checkMpeg2Rate80kStereo => true
  | .l2checkMpeg2Rate80kJointStereo => true
  | .l2checkMpeg2Rate80kDualChannel => true
  | .l2checkMpeg25Rate32kStereo => true
  | .l2checkMpeg25Rate32kJointStereo => true
  | .l2checkMpeg25Rate32kDualChannel => true
  | .l2checkMpeg25Rate48kStereo => true
  | .l2checkMpeg25Rate48kJointStereo => true
  | .l2checkMpeg25Rate48kDualChannel => true
  | .l2checkMpeg25Rate56kStereo => true
  | .l2checkMpeg25Rate56kJointStereo => true
  | .l2checkMpeg25Rate56kDualChannel => true
  | .l2checkMpeg25Rate80kStereo => true
  | .l2checkMpeg25Rate80kJointStereo => true
  | .l2checkMpeg25Rate80kDualChannel => true

end Sys2Proof
end

