-- ==== Sys2Proof/Decode.lean ====
section
/-! DEFINITION. Decoding: bytes to a word (20_memory R40), a word to its fields (30_encoding R60), the fields to the opcode-table rows HDEC goes through (R76, 40_header_decoder R114), and the encoder. -/

namespace Sys2Proof

/-- The word 4 stream bytes form in the configured byte order (R40). -/
def wordOfBytes (b0 b1 b2 b3 : Byte) : Word :=
  match Config.byteOrder with
  | .bigEndian => b0 ++ b1 ++ b2 ++ b3

/-- The 4 stream bytes of a word, first byte first (R40). -/
def bytesOfWord (w : Word) : List Byte :=
  match Config.byteOrder with
  | .bigEndian => [w.extractLsb' 24 8, w.extractLsb' 16 8, w.extractLsb' 8 8, w.extractLsb' 0 8]

/-- The field slices of format HDR32 (R60). -/
def fieldsOf (w : Word) : HeaderFields where
  sync := w.extractLsb' 21 11
  version := w.extractLsb' 19 2
  layer := w.extractLsb' 17 2
  protection := w.extractLsb' 16 1
  bitrateIdx := w.extractLsb' 12 4
  srateIdx := w.extractLsb' 10 2
  padding := w.extractLsb' 9 1
  privateBit := w.extractLsb' 8 1
  mode := w.extractLsb' 6 2
  modeExt := w.extractLsb' 4 2
  copyright := w.extractLsb' 3 1
  original := w.extractLsb' 2 1
  emphasis := w.extractLsb' 0 2

/-- The word with the given fields, most significant first (R60). -/
def wordOf (f : HeaderFields) : Word :=
  f.sync ++ f.version ++ f.layer ++ f.protection ++ f.bitrateIdx ++ f.srateIdx ++ f.padding ++
    f.privateBit ++ f.mode ++ f.modeExt ++ f.copyright ++ f.original ++ f.emphasis

/-- The sync test of the block and of the host: the mask `0xFFE` over the top 12 bits (R61, C1). -/
def syncOk (w : Word) : Bool := w &&& 0xFFE00000#32 == 0xFFE00000#32

/-- The version row a code selects (R103). -/
def versionRowOf (code : BitVec 2) : Instr :=
  if code = 0b00#2 then .versionMpeg25
  else if code = 0b01#2 then .versionReserved
  else if code = 0b10#2 then .versionMpeg2
  else .versionMpeg1

/-- The layer row a code selects (R104). -/
def layerRowOf (code : BitVec 2) : Instr :=
  if code = 0b00#2 then .layerReserved
  else if code = 0b01#2 then .layerIII
  else if code = 0b10#2 then .layerII
  else .layerI

/-- The protection row a bit selects (R113). -/
def protectionRowOf (bit : BitVec 1) : Instr :=
  if bit = 0#1 then .protectionProtected else .protectionUnprotected

/-- The bit-rate-index row a code selects (R105). -/
def bitrateRowOf (idx : BitVec 4) : Instr :=
  match idx.toNat with
  | 0 => .bitrateIdx0
  | 1 => .bitrateIdx1
  | 2 => .bitrateIdx2
  | 3 => .bitrateIdx3
  | 4 => .bitrateIdx4
  | 5 => .bitrateIdx5
  | 6 => .bitrateIdx6
  | 7 => .bitrateIdx7
  | 8 => .bitrateIdx8
  | 9 => .bitrateIdx9
  | 10 => .bitrateIdx10
  | 11 => .bitrateIdx11
  | 12 => .bitrateIdx12
  | 13 => .bitrateIdx13
  | 14 => .bitrateIdx14
  | _ => .bitrateIdx15

/-- The sample-rate-index row a code selects (R106). -/
def srateRowOf (sidx : BitVec 2) : Instr :=
  match sidx.toNat with
  | 0 => .srateIdx0
  | 1 => .srateIdx1
  | 2 => .srateIdx2
  | _ => .srateIdx3

/-- The padding row a bit selects (R107). -/
def paddingRowOf (bit : BitVec 1) : Instr := if bit = 0#1 then .padding0 else .padding1

/-- The private-bit row a bit selects (R107). -/
def privateBitRowOf (bit : BitVec 1) : Instr := if bit = 0#1 then .privateBit0 else .privateBit1

/-- The channel-mode row a code selects (R108). -/
def modeRowOf : ChannelMode → Instr
  | .stereo => .modeStereo
  | .jointStereo => .modeJointStereo
  | .dualChannel => .modeDualChannel
  | .singleChannel => .modeSingleChannel

/-- The mode-extension row a code selects for joint stereo, by layer (R109). -/
def jointExtRowOf (l : Layer) (x : BitVec 2) : Instr :=
  match l, x.toNat with
  | .layerI, 0 => .modeExtJsLayerI0
  | .layerI, 1 => .modeExtJsLayerI1
  | .layerI, 2 => .modeExtJsLayerI2
  | .layerI, _ => .modeExtJsLayerI3
  | .layerII, 0 => .modeExtJsLayerII0
  | .layerII, 1 => .modeExtJsLayerII1
  | .layerII, 2 => .modeExtJsLayerII2
  | .layerII, _ => .modeExtJsLayerII3
  | .layerIII, 0 => .modeExtJsLayerIII0
  | .layerIII, 1 => .modeExtJsLayerIII1
  | .layerIII, 2 => .modeExtJsLayerIII2
  | .layerIII, _ => .modeExtJsLayerIII3

/-- The copyright row a bit selects (R110). -/
def copyrightRowOf (bit : BitVec 1) : Instr := if bit = 0#1 then .copyright0 else .copyright1

/-- The original row a bit selects (R110). -/
def originalRowOf (bit : BitVec 1) : Instr := if bit = 0#1 then .original0 else .original1

/-- The emphasis row a code selects (R111). -/
def emphasisRowOf (code : BitVec 2) : Instr :=
  if code = 0b00#2 then .emphasisNone
  else if code = 0b01#2 then .emphasisMs5015
  else if code = 0b10#2 then .emphasisReserved
  else .emphasisCcitJ17

/-- The prohibited-pattern row of a Layer II version, decoded bit rate and channel mode (R112); none for a pair that passes. -/
def layerIIRowOf (v : Version) (bitRateBps : Nat) (m : ChannelMode) : Option Instr :=
  match v, m, bitRateBps with
  | .mpeg1, .stereo, 32000 => some .l2checkMpeg1Rate32kStereo
  | .mpeg1, .jointStereo, 32000 => some .l2checkMpeg1Rate32kJointStereo
  | .mpeg1, .dualChannel, 32000 => some .l2checkMpeg1Rate32kDualChannel
  | .mpeg1, .stereo, 48000 => some .l2checkMpeg1Rate48kStereo
  | .mpeg1, .jointStereo, 48000 => some .l2checkMpeg1Rate48kJointStereo
  | .mpeg1, .dualChannel, 48000 => some .l2checkMpeg1Rate48kDualChannel
  | .mpeg1, .stereo, 56000 => some .l2checkMpeg1Rate56kStereo
  | .mpeg1, .jointStereo, 56000 => some .l2checkMpeg1Rate56kJointStereo
  | .mpeg1, .dualChannel, 56000 => some .l2checkMpeg1Rate56kDualChannel
  | .mpeg1, .stereo, 80000 => some .l2checkMpeg1Rate80kStereo
  | .mpeg1, .jointStereo, 80000 => some .l2checkMpeg1Rate80kJointStereo
  | .mpeg1, .dualChannel, 80000 => some .l2checkMpeg1Rate80kDualChannel
  | .mpeg1, .singleChannel, 224000 => some .l2checkMpeg1Rate224kSingleChannel
  | .mpeg1, .singleChannel, 256000 => some .l2checkMpeg1Rate256kSingleChannel
  | .mpeg1, .singleChannel, 320000 => some .l2checkMpeg1Rate320kSingleChannel
  | .mpeg1, .singleChannel, 384000 => some .l2checkMpeg1Rate384kSingleChannel
  | .mpeg2, .stereo, 32000 => some .l2checkMpeg2Rate32kStereo
  | .mpeg2, .jointStereo, 32000 => some .l2checkMpeg2Rate32kJointStereo
  | .mpeg2, .dualChannel, 32000 => some .l2checkMpeg2Rate32kDualChannel
  | .mpeg2, .stereo, 48000 => some .l2checkMpeg2Rate48kStereo
  | .mpeg2, .jointStereo, 48000 => some .l2checkMpeg2Rate48kJointStereo
  | .mpeg2, .dualChannel, 48000 => some .l2checkMpeg2Rate48kDualChannel
  | .mpeg2, .stereo, 56000 => some .l2checkMpeg2Rate56kStereo
  | .mpeg2, .jointStereo, 56000 => some .l2checkMpeg2Rate56kJointStereo
  | .mpeg2, .dualChannel, 56000 => some .l2checkMpeg2Rate56kDualChannel
  | .mpeg2, .stereo, 80000 => some .l2checkMpeg2Rate80kStereo
  | .mpeg2, .jointStereo, 80000 => some .l2checkMpeg2Rate80kJointStereo
  | .mpeg2, .dualChannel, 80000 => some .l2checkMpeg2Rate80kDualChannel
  | .mpeg25, .stereo, 32000 => some .l2checkMpeg25Rate32kStereo
  | .mpeg25, .jointStereo, 32000 => some .l2checkMpeg25Rate32kJointStereo
  | .mpeg25, .dualChannel, 32000 => some .l2checkMpeg25Rate32kDualChannel
  | .mpeg25, .stereo, 48000 => some .l2checkMpeg25Rate48kStereo
  | .mpeg25, .jointStereo, 48000 => some .l2checkMpeg25Rate48kJointStereo
  | .mpeg25, .dualChannel, 48000 => some .l2checkMpeg25Rate48kDualChannel
  | .mpeg25, .stereo, 56000 => some .l2checkMpeg25Rate56kStereo
  | .mpeg25, .jointStereo, 56000 => some .l2checkMpeg25Rate56kJointStereo
  | .mpeg25, .dualChannel, 56000 => some .l2checkMpeg25Rate56kDualChannel
  | .mpeg25, .stereo, 80000 => some .l2checkMpeg25Rate80kStereo
  | .mpeg25, .jointStereo, 80000 => some .l2checkMpeg25Rate80kJointStereo
  | .mpeg25, .dualChannel, 80000 => some .l2checkMpeg25Rate80kDualChannel
  | _, _, _ => none

/-- The row a step's field selects in a word (R114); none where an earlier step has not given the step its operands, or where step 11
passes. -/
def rowAt (f : HeaderFields) : DecodeStep → Option Instr
  | .version => some (versionRowOf f.version)
  | .layer => some (layerRowOf f.layer)
  | .protection => some (protectionRowOf f.protection)
  | .bitrate => some (bitrateRowOf f.bitrateIdx)
  | .srate => some (srateRowOf f.srateIdx)
  | .padding => some (paddingRowOf f.padding)
  | .privateBit => some (privateBitRowOf f.privateBit)
  | .mode => some (modeRowOf (decodeMode f.mode))
  | .modeExt =>
    match decodeMode f.mode with
    | .stereo => some .modeExtIgnoredStereo
    | .dualChannel => some .modeExtIgnoredDualChannel
    | .singleChannel => some .modeExtIgnoredSingleChannel
    | .jointStereo =>
      match decodeLayer f.layer with
      | .ok l => some (jointExtRowOf l f.modeExt)
      | .error _ => none
  | .copyright => some (copyrightRowOf f.copyright)
  | .original => some (originalRowOf f.original)
  | .emphasis => some (emphasisRowOf f.emphasis)
  | .layerII =>
    match decodeVersion f.version, decodeLayer f.layer with
    | .ok v, .ok .layerII =>
      match decodeBitrate Config.roms v .layerII f.bitrateIdx with
      | .ok bps => layerIIRowOf v bps (decodeMode f.mode)
      | .error _ => none
    | _, _ => none

/-- The steps after the sync check, in order (R114). -/
def decodeSteps : List DecodeStep :=
  [.version, .layer, .protection, .bitrate, .srate, .padding, .privateBit, .mode, .modeExt,
    .copyright, .original, .emphasis, .layerII]

/-- The error a row names (the table's "result"); none for a row that does not fail. -/
def Instr.raises : Instr → Option HeaderError
  | .hdec _ => none
  | .flen _ => none
  | .versionMpeg25 => none
  | .versionReserved => some .reservedVersion
  | .versionMpeg2 => none
  | .versionMpeg1 => none
  | .layerReserved => some .reservedLayer
  | .layerIII => none
  | .layerII => none
  | .layerI => none
  | .protectionProtected => none
  | .protectionUnprotected => none
  | .bitrateIdx0 => none
  | .bitrateIdx1 => none
  | .bitrateIdx2 => none
  | .bitrateIdx3 => none
  | .bitrateIdx4 => none
  | .bitrateIdx5 => none
  | .bitrateIdx6 => none
  | .bitrateIdx7 => none
  | .bitrateIdx8 => none
  | .bitrateIdx9 => none
  | .bitrateIdx10 => none
  | .bitrateIdx11 => none
  | .bitrateIdx12 => none
  | .bitrateIdx13 => none
  | .bitrateIdx14 => none
  | .bitrateIdx15 => some .invalidBitrateIndex
  | .srateIdx0 => none
  | .srateIdx1 => none
  | .srateIdx2 => none
  | .srateIdx3 => some .reservedSampleRate
  | .padding0 => none
  | .padding1 => none
  | .privateBit0 => none
  | .privateBit1 => none
  | .modeStereo => none
  | .modeJointStereo => none
  | .modeDualChannel => none
  | .modeSingleChannel => none
  | .modeExtJsLayerI0 => none
  | .modeExtJsLayerI1 => none
  | .modeExtJsLayerI2 => none
  | .modeExtJsLayerI3 => none
  | .modeExtJsLayerII0 => none
  | .modeExtJsLayerII1 => none
  | .modeExtJsLayerII2 => none
  | .modeExtJsLayerII3 => none
  | .modeExtJsLayerIII0 => none
  | .modeExtJsLayerIII1 => none
  | .modeExtJsLayerIII2 => none
  | .modeExtJsLayerIII3 => none
  | .modeExtIgnoredStereo => none
  | .modeExtIgnoredDualChannel => none
  | .modeExtIgnoredSingleChannel => none
  | .copyright0 => none
  | .copyright1 => none
  | .original0 => none
  | .original1 => none
  | .emphasisNone => none
  | .emphasisMs5015 => none
  | .emphasisReserved => some .reservedEmphasis
  | .emphasisCcitJ17 => none
  | .l2checkMpeg1Rate32kStereo => some .prohibitedBitrateChannelCombination
  | .l2checkMpeg1Rate32kJointStereo => some .prohibitedBitrateChannelCombination
  | .l2checkMpeg1Rate32kDualChannel => some .prohibitedBitrateChannelCombination
  | .l2checkMpeg1Rate48kStereo => some .prohibitedBitrateChannelCombination
  | .l2checkMpeg1Rate48kJointStereo => some .prohibitedBitrateChannelCombination
  | .l2checkMpeg1Rate48kDualChannel => some .prohibitedBitrateChannelCombination
  | .l2checkMpeg1Rate56kStereo => some .prohibitedBitrateChannelCombination
  | .l2checkMpeg1Rate56kJointStereo => some .prohibitedBitrateChannelCombination
  | .l2checkMpeg1Rate56kDualChannel => some .prohibitedBitrateChannelCombination
  | .l2checkMpeg1Rate80kStereo => some .prohibitedBitrateChannelCombination
  | .l2checkMpeg1Rate80kJointStereo => some .prohibitedBitrateChannelCombination
  | .l2checkMpeg1Rate80kDualChannel => some .prohibitedBitrateChannelCombination
  | .l2checkMpeg1Rate224kSingleChannel => some .prohibitedBitrateChannelCombination
  | .l2checkMpeg1Rate256kSingleChannel => some .prohibitedBitrateChannelCombination
  | .l2checkMpeg1Rate320kSingleChannel => some .prohibitedBitrateChannelCombination
  | .l2checkMpeg1Rate384kSingleChannel => some .prohibitedBitrateChannelCombination
  | .l2checkMpeg2Rate32kStereo => some .prohibitedBitrateChannelCombination
  | .l2checkMpeg2Rate32kJointStereo => some .prohibitedBitrateChannelCombination
  | .l2checkMpeg2Rate32kDualChannel => some .prohibitedBitrateChannelCombination
  | .l2checkMpeg2Rate48kStereo => some .prohibitedBitrateChannelCombination
  | .l2checkMpeg2Rate48kJointStereo => some .prohibitedBitrateChannelCombination
  | .l2checkMpeg2Rate48kDualChannel => some .prohibitedBitrateChannelCombination
  | .l2checkMpeg2Rate56kStereo => some .prohibitedBitrateChannelCombination
  | .l2checkMpeg2Rate56kJointStereo => some .prohibitedBitrateChannelCombination
  | .l2checkMpeg2Rate56kDualChannel => some .prohibitedBitrateChannelCombination
  | .l2checkMpeg2Rate80kStereo => some .prohibitedBitrateChannelCombination
  | .l2checkMpeg2Rate80kJointStereo => some .prohibitedBitrateChannelCombination
  | .l2checkMpeg2Rate80kDualChannel => some .prohibitedBitrateChannelCombination
  | .l2checkMpeg25Rate32kStereo => some .prohibitedBitrateChannelCombination
  | .l2checkMpeg25Rate32kJointStereo => some .prohibitedBitrateChannelCombination
  | .l2checkMpeg25Rate32kDualChannel => some .prohibitedBitrateChannelCombination
  | .l2checkMpeg25Rate48kStereo => some .prohibitedBitrateChannelCombination
  | .l2checkMpeg25Rate48kJointStereo => some .prohibitedBitrateChannelCombination
  | .l2checkMpeg25Rate48kDualChannel => some .prohibitedBitrateChannelCombination
  | .l2checkMpeg25Rate56kStereo => some .prohibitedBitrateChannelCombination
  | .l2checkMpeg25Rate56kJointStereo => some .prohibitedBitrateChannelCombination
  | .l2checkMpeg25Rate56kDualChannel => some .prohibitedBitrateChannelCombination
  | .l2checkMpeg25Rate80kStereo => some .prohibitedBitrateChannelCombination
  | .l2checkMpeg25Rate80kJointStereo => some .prohibitedBitrateChannelCombination
  | .l2checkMpeg25Rate80kDualChannel => some .prohibitedBitrateChannelCombination

/-- A list up to and including its first member that satisfies `p`. -/
def takeThrough {α : Type} (p : α → Bool) : List α → List α
  | [] => []
  | a :: as => if p a then [a] else a :: takeThrough p as

/-- The rows HDEC goes through on a word that passes the sync check, in step order, the last one the row that fails, if any does (R114). -/
def rowsOf (f : HeaderFields) : List Instr :=
  takeThrough (fun i => i.raises.isSome) (decodeSteps.filterMap (rowAt f))

/-- The instruction a word is (R76, R77): the row of the earliest failing step where that step has a row, else HDEC on the word. HDEC is the
reading of a word without sync, too: it reports `SyncWordMissing` (R102). DESIGN CHOICE (log 10): the table gives HDEC
and the rows overlapping patterns and does not say which one a word "is". -/
def decodeWord (w : Word) : Instr :=
  if syncOk w then ((rowsOf (fieldsOf w)).find? (fun i => i.raises.isSome)).getD (.hdec (fieldsOf w))
  else .hdec (fieldsOf w)

/-- Why bytes are no instruction. -/
inductive DecodeReject where
  /-- fewer than 4 bytes: no header window can be formed (45_host_stream_scanner R174, R179) -/
  | shortWindow
deriving DecidableEq, Repr

/-- Decoding stream bytes: the first 4 form the word; the rest is handed back. Total, and every word is an instruction (R117). -/
def decode : List Byte → Except DecodeReject (Instr × List Byte)
  | b0 :: b1 :: b2 :: b3 :: rest => .ok (decodeWord (wordOfBytes b0 b1 b2 b3), rest)
  | _ => .error .shortWindow

/-- What the decoder reads from a word of the table's numbering, laid out as stream bytes. The bits above `nbits` are 0. -/
def decodeTableWord (nbits w : Nat) : Option Instr :=
  match decode (bytesOfWord (BitVec.ofNat Config.wordW (w % 2 ^ nbits))) with
  | .ok (i, _) => some i
  | .error _ => none

/-- The (mask, match) pair of each row, as spec/opcode_table.json prints it. -/
def Instr.pattern : Instr → Word × Word
  | .hdec _ => (0xFFE00000#32, 0xFFE00000#32)
  | .flen _ => (0xFFE00000#32, 0xFFE00000#32)
  | .versionMpeg25 => (0xFFF80000#32, 0xFFE00000#32)
  | .versionReserved => (0xFFF80000#32, 0xFFE80000#32)
  | .versionMpeg2 => (0xFFF80000#32, 0xFFF00000#32)
  | .versionMpeg1 => (0xFFF80000#32, 0xFFF80000#32)
  | .layerReserved => (0xFFE60000#32, 0xFFE00000#32)
  | .layerIII => (0xFFE60000#32, 0xFFE20000#32)
  | .layerII => (0xFFE60000#32, 0xFFE40000#32)
  | .layerI => (0xFFE60000#32, 0xFFE60000#32)
  | .protectionProtected => (0xFFE10000#32, 0xFFE00000#32)
  | .protectionUnprotected => (0xFFE10000#32, 0xFFE10000#32)
  | .bitrateIdx0 => (0xFFE0F000#32, 0xFFE00000#32)
  | .bitrateIdx1 => (0xFFE0F000#32, 0xFFE01000#32)
  | .bitrateIdx2 => (0xFFE0F000#32, 0xFFE02000#32)
  | .bitrateIdx3 => (0xFFE0F000#32, 0xFFE03000#32)
  | .bitrateIdx4 => (0xFFE0F000#32, 0xFFE04000#32)
  | .bitrateIdx5 => (0xFFE0F000#32, 0xFFE05000#32)
  | .bitrateIdx6 => (0xFFE0F000#32, 0xFFE06000#32)
  | .bitrateIdx7 => (0xFFE0F000#32, 0xFFE07000#32)
  | .bitrateIdx8 => (0xFFE0F000#32, 0xFFE08000#32)
  | .bitrateIdx9 => (0xFFE0F000#32, 0xFFE09000#32)
  | .bitrateIdx10 => (0xFFE0F000#32, 0xFFE0A000#32)
  | .bitrateIdx11 => (0xFFE0F000#32, 0xFFE0B000#32)
  | .bitrateIdx12 => (0xFFE0F000#32, 0xFFE0C000#32)
  | .bitrateIdx13 => (0xFFE0F000#32, 0xFFE0D000#32)
  | .bitrateIdx14 => (0xFFE0F000#32, 0xFFE0E000#32)
  | .bitrateIdx15 => (0xFFE0F000#32, 0xFFE0F000#32)
  | .srateIdx0 => (0xFFE00C00#32, 0xFFE00000#32)
  | .srateIdx1 => (0xFFE00C00#32, 0xFFE00400#32)
  | .srateIdx2 => (0xFFE00C00#32, 0xFFE00800#32)
  | .srateIdx3 => (0xFFE00C00#32, 0xFFE00C00#32)
  | .padding0 => (0xFFE00200#32, 0xFFE00000#32)
  | .padding1 => (0xFFE00200#32, 0xFFE00200#32)
  | .privateBit0 => (0xFFE00100#32, 0xFFE00000#32)
  | .privateBit1 => (0xFFE00100#32, 0xFFE00100#32)
  | .modeStereo => (0xFFE000C0#32, 0xFFE00000#32)
  | .modeJointStereo => (0xFFE000C0#32, 0xFFE00040#32)
  | .modeDualChannel => (0xFFE000C0#32, 0xFFE00080#32)
  | .modeSingleChannel => (0xFFE000C0#32, 0xFFE000C0#32)
  | .modeExtJsLayerI0 => (0xFFE600F0#32, 0xFFE60040#32)
  | .modeExtJsLayerI1 => (0xFFE600F0#32, 0xFFE60050#32)
  | .modeExtJsLayerI2 => (0xFFE600F0#32, 0xFFE60060#32)
  | .modeExtJsLayerI3 => (0xFFE600F0#32, 0xFFE60070#32)
  | .modeExtJsLayerII0 => (0xFFE600F0#32, 0xFFE40040#32)
  | .modeExtJsLayerII1 => (0xFFE600F0#32, 0xFFE40050#32)
  | .modeExtJsLayerII2 => (0xFFE600F0#32, 0xFFE40060#32)
  | .modeExtJsLayerII3 => (0xFFE600F0#32, 0xFFE40070#32)
  | .modeExtJsLayerIII0 => (0xFFE600F0#32, 0xFFE20040#32)
  | .modeExtJsLayerIII1 => (0xFFE600F0#32, 0xFFE20050#32)
  | .modeExtJsLayerIII2 => (0xFFE600F0#32, 0xFFE20060#32)
  | .modeExtJsLayerIII3 => (0xFFE600F0#32, 0xFFE20070#32)
  | .modeExtIgnoredStereo => (0xFFE000C0#32, 0xFFE00000#32)
  | .modeExtIgnoredDualChannel => (0xFFE000C0#32, 0xFFE00080#32)
  | .modeExtIgnoredSingleChannel => (0xFFE000C0#32, 0xFFE000C0#32)
  | .copyright0 => (0xFFE00008#32, 0xFFE00000#32)
  | .copyright1 => (0xFFE00008#32, 0xFFE00008#32)
  | .original0 => (0xFFE00004#32, 0xFFE00000#32)
  | .original1 => (0xFFE00004#32, 0xFFE00004#32)
  | .emphasisNone => (0xFFE00003#32, 0xFFE00000#32)
  | .emphasisMs5015 => (0xFFE00003#32, 0xFFE00001#32)
  | .emphasisReserved => (0xFFE00003#32, 0xFFE00002#32)
  | .emphasisCcitJ17 => (0xFFE00003#32, 0xFFE00003#32)
  | .l2checkMpeg1Rate32kStereo => (0xFFFEF0C0#32, 0xFFFC1000#32)
  | .l2checkMpeg1Rate32kJointStereo => (0xFFFEF0C0#32, 0xFFFC1040#32)
  | .l2checkMpeg1Rate32kDualChannel => (0xFFFEF0C0#32, 0xFFFC1080#32)
  | .l2checkMpeg1Rate48kStereo => (0xFFFEF0C0#32, 0xFFFC2000#32)
  | .l2checkMpeg1Rate48kJointStereo => (0xFFFEF0C0#32, 0xFFFC2040#32)
  | .l2checkMpeg1Rate48kDualChannel => (0xFFFEF0C0#32, 0xFFFC2080#32)
  | .l2checkMpeg1Rate56kStereo => (0xFFFEF0C0#32, 0xFFFC3000#32)
  | .l2checkMpeg1Rate56kJointStereo => (0xFFFEF0C0#32, 0xFFFC3040#32)
  | .l2checkMpeg1Rate56kDualChannel => (0xFFFEF0C0#32, 0xFFFC3080#32)
  | .l2checkMpeg1Rate80kStereo => (0xFFFEF0C0#32, 0xFFFC5000#32)
  | .l2checkMpeg1Rate80kJointStereo => (0xFFFEF0C0#32, 0xFFFC5040#32)
  | .l2checkMpeg1Rate80kDualChannel => (0xFFFEF0C0#32, 0xFFFC5080#32)
  | .l2checkMpeg1Rate224kSingleChannel => (0xFFFEF0C0#32, 0xFFFCB0C0#32)
  | .l2checkMpeg1Rate256kSingleChannel => (0xFFFEF0C0#32, 0xFFFCC0C0#32)
  | .l2checkMpeg1Rate320kSingleChannel => (0xFFFEF0C0#32, 0xFFFCD0C0#32)
  | .l2checkMpeg1Rate384kSingleChannel => (0xFFFEF0C0#32, 0xFFFCE0C0#32)
  | .l2checkMpeg2Rate32kStereo => (0xFFFEF0C0#32, 0xFFF44000#32)
  | .l2checkMpeg2Rate32kJointStereo => (0xFFFEF0C0#32, 0xFFF44040#32)
  | .l2checkMpeg2Rate32kDualChannel => (0xFFFEF0C0#32, 0xFFF44080#32)
  | .l2checkMpeg2Rate48kStereo => (0xFFFEF0C0#32, 0xFFF46000#32)
  | .l2checkMpeg2Rate48kJointStereo => (0xFFFEF0C0#32, 0xFFF46040#32)
  | .l2checkMpeg2Rate48kDualChannel => (0xFFFEF0C0#32, 0xFFF46080#32)
  | .l2checkMpeg2Rate56kStereo => (0xFFFEF0C0#32, 0xFFF47000#32)
  | .l2checkMpeg2Rate56kJointStereo => (0xFFFEF0C0#32, 0xFFF47040#32)
  | .l2checkMpeg2Rate56kDualChannel => (0xFFFEF0C0#32, 0xFFF47080#32)
  | .l2checkMpeg2Rate80kStereo => (0xFFFEF0C0#32, 0xFFF49000#32)
  | .l2checkMpeg2Rate80kJointStereo => (0xFFFEF0C0#32, 0xFFF49040#32)
  | .l2checkMpeg2Rate80kDualChannel => (0xFFFEF0C0#32, 0xFFF49080#32)
  | .l2checkMpeg25Rate32kStereo => (0xFFFEF0C0#32, 0xFFE44000#32)
  | .l2checkMpeg25Rate32kJointStereo => (0xFFFEF0C0#32, 0xFFE44040#32)
  | .l2checkMpeg25Rate32kDualChannel => (0xFFFEF0C0#32, 0xFFE44080#32)
  | .l2checkMpeg25Rate48kStereo => (0xFFFEF0C0#32, 0xFFE46000#32)
  | .l2checkMpeg25Rate48kJointStereo => (0xFFFEF0C0#32, 0xFFE46040#32)
  | .l2checkMpeg25Rate48kDualChannel => (0xFFFEF0C0#32, 0xFFE46080#32)
  | .l2checkMpeg25Rate56kStereo => (0xFFFEF0C0#32, 0xFFE47000#32)
  | .l2checkMpeg25Rate56kJointStereo => (0xFFFEF0C0#32, 0xFFE47040#32)
  | .l2checkMpeg25Rate56kDualChannel => (0xFFFEF0C0#32, 0xFFE47080#32)
  | .l2checkMpeg25Rate80kStereo => (0xFFFEF0C0#32, 0xFFE49000#32)
  | .l2checkMpeg25Rate80kJointStereo => (0xFFFEF0C0#32, 0xFFE49040#32)
  | .l2checkMpeg25Rate80kDualChannel => (0xFFFEF0C0#32, 0xFFE49080#32)

/-- The step a row belongs to; HDEC and FLEN are whole operations. -/
def Instr.decodeStep : Instr → Option DecodeStep
  | .hdec _ => none
  | .flen _ => none
  | .versionMpeg25 => some .version
  | .versionReserved => some .version
  | .versionMpeg2 => some .version
  | .versionMpeg1 => some .version
  | .layerReserved => some .layer
  | .layerIII => some .layer
  | .layerII => some .layer
  | .layerI => some .layer
  | .protectionProtected => some .protection
  | .protectionUnprotected => some .protection
  | .bitrateIdx0 => some .bitrate
  | .bitrateIdx1 => some .bitrate
  | .bitrateIdx2 => some .bitrate
  | .bitrateIdx3 => some .bitrate
  | .bitrateIdx4 => some .bitrate
  | .bitrateIdx5 => some .bitrate
  | .bitrateIdx6 => some .bitrate
  | .bitrateIdx7 => some .bitrate
  | .bitrateIdx8 => some .bitrate
  | .bitrateIdx9 => some .bitrate
  | .bitrateIdx10 => some .bitrate
  | .bitrateIdx11 => some .bitrate
  | .bitrateIdx12 => some .bitrate
  | .bitrateIdx13 => some .bitrate
  | .bitrateIdx14 => some .bitrate
  | .bitrateIdx15 => some .bitrate
  | .srateIdx0 => some .srate
  | .srateIdx1 => some .srate
  | .srateIdx2 => some .srate
  | .srateIdx3 => some .srate
  | .padding0 => some .padding
  | .padding1 => some .padding
  | .privateBit0 => some .privateBit
  | .privateBit1 => some .privateBit
  | .modeStereo => some .mode
  | .modeJointStereo => some .mode
  | .modeDualChannel => some .mode
  | .modeSingleChannel => some .mode
  | .modeExtJsLayerI0 => some .modeExt
  | .modeExtJsLayerI1 => some .modeExt
  | .modeExtJsLayerI2 => some .modeExt
  | .modeExtJsLayerI3 => some .modeExt
  | .modeExtJsLayerII0 => some .modeExt
  | .modeExtJsLayerII1 => some .modeExt
  | .modeExtJsLayerII2 => some .modeExt
  | .modeExtJsLayerII3 => some .modeExt
  | .modeExtJsLayerIII0 => some .modeExt
  | .modeExtJsLayerIII1 => some .modeExt
  | .modeExtJsLayerIII2 => some .modeExt
  | .modeExtJsLayerIII3 => some .modeExt
  | .modeExtIgnoredStereo => some .modeExt
  | .modeExtIgnoredDualChannel => some .modeExt
  | .modeExtIgnoredSingleChannel => some .modeExt
  | .copyright0 => some .copyright
  | .copyright1 => some .copyright
  | .original0 => some .original
  | .original1 => some .original
  | .emphasisNone => some .emphasis
  | .emphasisMs5015 => some .emphasis
  | .emphasisReserved => some .emphasis
  | .emphasisCcitJ17 => some .emphasis
  | .l2checkMpeg1Rate32kStereo => some .layerII
  | .l2checkMpeg1Rate32kJointStereo => some .layerII
  | .l2checkMpeg1Rate32kDualChannel => some .layerII
  | .l2checkMpeg1Rate48kStereo => some .layerII
  | .l2checkMpeg1Rate48kJointStereo => some .layerII
  | .l2checkMpeg1Rate48kDualChannel => some .layerII
  | .l2checkMpeg1Rate56kStereo => some .layerII
  | .l2checkMpeg1Rate56kJointStereo => some .layerII
  | .l2checkMpeg1Rate56kDualChannel => some .layerII
  | .l2checkMpeg1Rate80kStereo => some .layerII
  | .l2checkMpeg1Rate80kJointStereo => some .layerII
  | .l2checkMpeg1Rate80kDualChannel => some .layerII
  | .l2checkMpeg1Rate224kSingleChannel => some .layerII
  | .l2checkMpeg1Rate256kSingleChannel => some .layerII
  | .l2checkMpeg1Rate320kSingleChannel => some .layerII
  | .l2checkMpeg1Rate384kSingleChannel => some .layerII
  | .l2checkMpeg2Rate32kStereo => some .layerII
  | .l2checkMpeg2Rate32kJointStereo => some .layerII
  | .l2checkMpeg2Rate32kDualChannel => some .layerII
  | .l2checkMpeg2Rate48kStereo => some .layerII
  | .l2checkMpeg2Rate48kJointStereo => some .layerII
  | .l2checkMpeg2Rate48kDualChannel => some .layerII
  | .l2checkMpeg2Rate56kStereo => some .layerII
  | .l2checkMpeg2Rate56kJointStereo => some .layerII
  | .l2checkMpeg2Rate56kDualChannel => some .layerII
  | .l2checkMpeg2Rate80kStereo => some .layerII
  | .l2checkMpeg2Rate80kJointStereo => some .layerII
  | .l2checkMpeg2Rate80kDualChannel => some .layerII
  | .l2checkMpeg25Rate32kStereo => some .layerII
  | .l2checkMpeg25Rate32kJointStereo => some .layerII
  | .l2checkMpeg25Rate32kDualChannel => some .layerII
  | .l2checkMpeg25Rate48kStereo => some .layerII
  | .l2checkMpeg25Rate48kJointStereo => some .layerII
  | .l2checkMpeg25Rate48kDualChannel => some .layerII
  | .l2checkMpeg25Rate56kStereo => some .layerII
  | .l2checkMpeg25Rate56kJointStereo => some .layerII
  | .l2checkMpeg25Rate56kDualChannel => some .layerII
  | .l2checkMpeg25Rate80kStereo => some .layerII
  | .l2checkMpeg25Rate80kJointStereo => some .layerII
  | .l2checkMpeg25Rate80kDualChannel => some .layerII

/-- The bit-rate index whose entry a column has, for the encoder (R118). -/
def bitrateIdxOf (R : Roms) (v : Version) (l : Layer) (bps : Nat) : BitVec 4 :=
  if bps = 0 then 0#4
  else match (List.finRange 14).find? (fun i => (R.bitrate i.succ (bitrateCol v l)).toNat == bps) with
    | some i => BitVec.ofNat 4 i.succ.val
    | none => 0xF#4

/-- The sample-rate index whose entry a column has, for the encoder (R118). -/
def srateIdxOf (R : Roms) (v : Version) (hz : Nat) : BitVec 2 :=
  match (List.finRange 3).find? (fun i => (R.sampleRate i v.vcol).toNat == hz) with
  | some i => BitVec.ofNat 2 i.val
  | none => 3#2

/-- The mode-extension bits of a union (R69); 0 where they are ignored (DESIGN CHOICE, log 11). -/
def JointStereoExt.bits : JointStereoExt → BitVec 2
  | .absent => 0#2
  | .bandStart n => BitVec.ofNat 2 (n / 4 - 1)
  | .stereoFlags i m => BitVec.ofBool m ++ BitVec.ofBool i

/-- The fields of a word that decodes to a record: the inverse R118 describes. -/
def fieldsOfHeader (R : Roms) (h : FrameHeader) : HeaderFields where
  sync := 0x7FF#11
  version := h.version.code
  layer := h.layer.code
  protection := BitVec.ofBool (!h.hasCrc)
  bitrateIdx := bitrateIdxOf R h.version h.layer h.bitRateBps
  srateIdx := srateIdxOf R h.version h.sampleRateHz
  padding := BitVec.ofBool h.padded
  privateBit := BitVec.ofBool h.privateBit
  mode := h.channelMode.code
  modeExt := h.jointStereoExt.bits
  copyright := BitVec.ofBool h.copyrighted
  original := BitVec.ofBool h.original
  emphasis := h.emphasis.code

/-- The bits a row leaves open are filled from this word, MPEG1 Layer III, index 9, 44100 Hz, Stereo, no emphasis, on which no step
fails (DESIGN CHOICE, log 11). -/
def encodeFill : Word := 0xFFFB9000#32

/-- A row's match bits over the fill. -/
def patternWord (p : Word × Word) : Word := p.2 ||| (encodeFill &&& ~~~p.1)

/-- The word of a well-formed instruction. HDEC: its fields. FLEN has no encoding of its own (R150): the word HDEC decodes to its record.
A row: its match bits, the rest filled. -/
def encode : Instr → Word
  | .hdec f => wordOf f
  | .flen h => wordOf (fieldsOfHeader Config.roms h)
  | .versionMpeg25 => patternWord (Instr.pattern .versionMpeg25)
  | .versionReserved => patternWord (Instr.pattern .versionReserved)
  | .versionMpeg2 => patternWord (Instr.pattern .versionMpeg2)
  | .versionMpeg1 => patternWord (Instr.pattern .versionMpeg1)
  | .layerReserved => patternWord (Instr.pattern .layerReserved)
  | .layerIII => patternWord (Instr.pattern .layerIII)
  | .layerII => patternWord (Instr.pattern .layerII)
  | .layerI => patternWord (Instr.pattern .layerI)
  | .protectionProtected => patternWord (Instr.pattern .protectionProtected)
  | .protectionUnprotected => patternWord (Instr.pattern .protectionUnprotected)
  | .bitrateIdx0 => patternWord (Instr.pattern .bitrateIdx0)
  | .bitrateIdx1 => patternWord (Instr.pattern .bitrateIdx1)
  | .bitrateIdx2 => patternWord (Instr.pattern .bitrateIdx2)
  | .bitrateIdx3 => patternWord (Instr.pattern .bitrateIdx3)
  | .bitrateIdx4 => patternWord (Instr.pattern .bitrateIdx4)
  | .bitrateIdx5 => patternWord (Instr.pattern .bitrateIdx5)
  | .bitrateIdx6 => patternWord (Instr.pattern .bitrateIdx6)
  | .bitrateIdx7 => patternWord (Instr.pattern .bitrateIdx7)
  | .bitrateIdx8 => patternWord (Instr.pattern .bitrateIdx8)
  | .bitrateIdx9 => patternWord (Instr.pattern .bitrateIdx9)
  | .bitrateIdx10 => patternWord (Instr.pattern .bitrateIdx10)
  | .bitrateIdx11 => patternWord (Instr.pattern .bitrateIdx11)
  | .bitrateIdx12 => patternWord (Instr.pattern .bitrateIdx12)
  | .bitrateIdx13 => patternWord (Instr.pattern .bitrateIdx13)
  | .bitrateIdx14 => patternWord (Instr.pattern .bitrateIdx14)
  | .bitrateIdx15 => patternWord (Instr.pattern .bitrateIdx15)
  | .srateIdx0 => patternWord (Instr.pattern .srateIdx0)
  | .srateIdx1 => patternWord (Instr.pattern .srateIdx1)
  | .srateIdx2 => patternWord (Instr.pattern .srateIdx2)
  | .srateIdx3 => patternWord (Instr.pattern .srateIdx3)
  | .padding0 => patternWord (Instr.pattern .padding0)
  | .padding1 => patternWord (Instr.pattern .padding1)
  | .privateBit0 => patternWord (Instr.pattern .privateBit0)
  | .privateBit1 => patternWord (Instr.pattern .privateBit1)
  | .modeStereo => patternWord (Instr.pattern .modeStereo)
  | .modeJointStereo => patternWord (Instr.pattern .modeJointStereo)
  | .modeDualChannel => patternWord (Instr.pattern .modeDualChannel)
  | .modeSingleChannel => patternWord (Instr.pattern .modeSingleChannel)
  | .modeExtJsLayerI0 => patternWord (Instr.pattern .modeExtJsLayerI0)
  | .modeExtJsLayerI1 => patternWord (Instr.pattern .modeExtJsLayerI1)
  | .modeExtJsLayerI2 => patternWord (Instr.pattern .modeExtJsLayerI2)
  | .modeExtJsLayerI3 => patternWord (Instr.pattern .modeExtJsLayerI3)
  | .modeExtJsLayerII0 => patternWord (Instr.pattern .modeExtJsLayerII0)
  | .modeExtJsLayerII1 => patternWord (Instr.pattern .modeExtJsLayerII1)
  | .modeExtJsLayerII2 => patternWord (Instr.pattern .modeExtJsLayerII2)
  | .modeExtJsLayerII3 => patternWord (Instr.pattern .modeExtJsLayerII3)
  | .modeExtJsLayerIII0 => patternWord (Instr.pattern .modeExtJsLayerIII0)
  | .modeExtJsLayerIII1 => patternWord (Instr.pattern .modeExtJsLayerIII1)
  | .modeExtJsLayerIII2 => patternWord (Instr.pattern .modeExtJsLayerIII2)
  | .modeExtJsLayerIII3 => patternWord (Instr.pattern .modeExtJsLayerIII3)
  | .modeExtIgnoredStereo => patternWord (Instr.pattern .modeExtIgnoredStereo)
  | .modeExtIgnoredDualChannel => patternWord (Instr.pattern .modeExtIgnoredDualChannel)
  | .modeExtIgnoredSingleChannel => patternWord (Instr.pattern .modeExtIgnoredSingleChannel)
  | .copyright0 => patternWord (Instr.pattern .copyright0)
  | .copyright1 => patternWord (Instr.pattern .copyright1)
  | .original0 => patternWord (Instr.pattern .original0)
  | .original1 => patternWord (Instr.pattern .original1)
  | .emphasisNone => patternWord (Instr.pattern .emphasisNone)
  | .emphasisMs5015 => patternWord (Instr.pattern .emphasisMs5015)
  | .emphasisReserved => patternWord (Instr.pattern .emphasisReserved)
  | .emphasisCcitJ17 => patternWord (Instr.pattern .emphasisCcitJ17)
  | .l2checkMpeg1Rate32kStereo => patternWord (Instr.pattern .l2checkMpeg1Rate32kStereo)
  | .l2checkMpeg1Rate32kJointStereo => patternWord (Instr.pattern .l2checkMpeg1Rate32kJointStereo)
  | .l2checkMpeg1Rate32kDualChannel => patternWord (Instr.pattern .l2checkMpeg1Rate32kDualChannel)
  | .l2checkMpeg1Rate48kStereo => patternWord (Instr.pattern .l2checkMpeg1Rate48kStereo)
  | .l2checkMpeg1Rate48kJointStereo => patternWord (Instr.pattern .l2checkMpeg1Rate48kJointStereo)
  | .l2checkMpeg1Rate48kDualChannel => patternWord (Instr.pattern .l2checkMpeg1Rate48kDualChannel)
  | .l2checkMpeg1Rate56kStereo => patternWord (Instr.pattern .l2checkMpeg1Rate56kStereo)
  | .l2checkMpeg1Rate56kJointStereo => patternWord (Instr.pattern .l2checkMpeg1Rate56kJointStereo)
  | .l2checkMpeg1Rate56kDualChannel => patternWord (Instr.pattern .l2checkMpeg1Rate56kDualChannel)
  | .l2checkMpeg1Rate80kStereo => patternWord (Instr.pattern .l2checkMpeg1Rate80kStereo)
  | .l2checkMpeg1Rate80kJointStereo => patternWord (Instr.pattern .l2checkMpeg1Rate80kJointStereo)
  | .l2checkMpeg1Rate80kDualChannel => patternWord (Instr.pattern .l2checkMpeg1Rate80kDualChannel)
  | .l2checkMpeg1Rate224kSingleChannel => patternWord (Instr.pattern .l2checkMpeg1Rate224kSingleChannel)
  | .l2checkMpeg1Rate256kSingleChannel => patternWord (Instr.pattern .l2checkMpeg1Rate256kSingleChannel)
  | .l2checkMpeg1Rate320kSingleChannel => patternWord (Instr.pattern .l2checkMpeg1Rate320kSingleChannel)
  | .l2checkMpeg1Rate384kSingleChannel => patternWord (Instr.pattern .l2checkMpeg1Rate384kSingleChannel)
  | .l2checkMpeg2Rate32kStereo => patternWord (Instr.pattern .l2checkMpeg2Rate32kStereo)
  | .l2checkMpeg2Rate32kJointStereo => patternWord (Instr.pattern .l2checkMpeg2Rate32kJointStereo)
  | .l2checkMpeg2Rate32kDualChannel => patternWord (Instr.pattern .l2checkMpeg2Rate32kDualChannel)
  | .l2checkMpeg2Rate48kStereo => patternWord (Instr.pattern .l2checkMpeg2Rate48kStereo)
  | .l2checkMpeg2Rate48kJointStereo => patternWord (Instr.pattern .l2checkMpeg2Rate48kJointStereo)
  | .l2checkMpeg2Rate48kDualChannel => patternWord (Instr.pattern .l2checkMpeg2Rate48kDualChannel)
  | .l2checkMpeg2Rate56kStereo => patternWord (Instr.pattern .l2checkMpeg2Rate56kStereo)
  | .l2checkMpeg2Rate56kJointStereo => patternWord (Instr.pattern .l2checkMpeg2Rate56kJointStereo)
  | .l2checkMpeg2Rate56kDualChannel => patternWord (Instr.pattern .l2checkMpeg2Rate56kDualChannel)
  | .l2checkMpeg2Rate80kStereo => patternWord (Instr.pattern .l2checkMpeg2Rate80kStereo)
  | .l2checkMpeg2Rate80kJointStereo => patternWord (Instr.pattern .l2checkMpeg2Rate80kJointStereo)
  | .l2checkMpeg2Rate80kDualChannel => patternWord (Instr.pattern .l2checkMpeg2Rate80kDualChannel)
  | .l2checkMpeg25Rate32kStereo => patternWord (Instr.pattern .l2checkMpeg25Rate32kStereo)
  | .l2checkMpeg25Rate32kJointStereo => patternWord (Instr.pattern .l2checkMpeg25Rate32kJointStereo)
  | .l2checkMpeg25Rate32kDualChannel => patternWord (Instr.pattern .l2checkMpeg25Rate32kDualChannel)
  | .l2checkMpeg25Rate48kStereo => patternWord (Instr.pattern .l2checkMpeg25Rate48kStereo)
  | .l2checkMpeg25Rate48kJointStereo => patternWord (Instr.pattern .l2checkMpeg25Rate48kJointStereo)
  | .l2checkMpeg25Rate48kDualChannel => patternWord (Instr.pattern .l2checkMpeg25Rate48kDualChannel)
  | .l2checkMpeg25Rate56kStereo => patternWord (Instr.pattern .l2checkMpeg25Rate56kStereo)
  | .l2checkMpeg25Rate56kJointStereo => patternWord (Instr.pattern .l2checkMpeg25Rate56kJointStereo)
  | .l2checkMpeg25Rate56kDualChannel => patternWord (Instr.pattern .l2checkMpeg25Rate56kDualChannel)
  | .l2checkMpeg25Rate80kStereo => patternWord (Instr.pattern .l2checkMpeg25Rate80kStereo)
  | .l2checkMpeg25Rate80kJointStereo => patternWord (Instr.pattern .l2checkMpeg25Rate80kJointStereo)
  | .l2checkMpeg25Rate80kDualChannel => patternWord (Instr.pattern .l2checkMpeg25Rate80kDualChannel)

end Sys2Proof
end

