-- ==== Sys2Proof/Machine/Scanner.lean ====
section
/-! DEFINITION. The host: the Stream Scanner's transitions (45_host_stream_scanner R173 to R181), how it reads the block's ports (R184, 42_frame_length R160), and what a whole stream parses to. -/

namespace Sys2Proof.Machine

/-- The big-endian window of 4 bytes at a stream offset (R174, 20_memory R40, R42), where that many have been received. -/
def windowAt (bytes : List Byte) (pos : Nat) : Option Word :=
  match bytes.drop pos with
  | b0 :: b1 :: b2 :: b3 :: _ => some (wordOfBytes b0 b1 b2 b3)
  | _ => none

/-- The frame at an offset (R175): its payload follows the 4 header bytes and the 2 CRC bytes if present. -/
def frameOf (pos : Nat) (x : Sample) : Frame where
  atOffset := pos
  header := x.header
  payloadLo := pos + 4 + crcAdjust x.header
  payloadHi := pos + x.length

/-- What the ports say of the presented window (R184, R160). -/
inductive Verdict where
  /-- no result marked valid (R246), or a pattern the block never shows (log 24) -/
  | notReady
  | rejected (cause : ErrorKind)
  | framed (x : Sample)
deriving DecidableEq, Repr

/-- Reading the ports: `out_status` not 0, or 0 with `len_status` 1, or 0 with `len_status` 0 (R160). -/
def readPorts (r : ResultRegs) : Verdict :=
  if r.outValid then
    if r.outStatus = statusOk then
      if r.lenStatus = lenStatusOk then
        match r.header? with
        | some h => .framed ⟨h, r.lenBytes.toNat⟩
        | none => .notReady
      else if r.lenStatus = lenStatusUndefined then .rejected (.length .undefinedFrameLength)
      else .notReady
    else
      match headerErrorOf r.outStatus with
      | some e => .rejected (.header e)
      | none => .notReady
  else .notReady

namespace Scanner

/-- One read of the byte source (R53, R170): a delivery is appended to the buffer (R180); with none left the source signals
end-of-input or stays silent. -/
def readSource (h : Scanner) : Scanner :=
  match h.reads with
  | chunk :: rest => { h with received := h.received ++ chunk, reads := rest }
  | [] => if h.sourceEnds then { h with endOfInput := true } else h

/-- Skip one byte in Seeking (R174). -/
def skip (h : Scanner) : Scanner :=
  { h with cursor := h.cursor + 1, bytesConsumed := h.bytesConsumed + 1 }

/-- The short tail (R179): what remains is counted as skipped, then Done. -/
def finish (h : Scanner) : Scanner :=
  { h with phase := .done, bytesConsumed := h.bytesConsumed + (h.received.length - h.cursor),
           cursor := h.received.length }

/-- Seeking (R174): suspend, finish, skip a byte, or begin an attempt. -/
def seek (h : Scanner) : Scanner :=
  match windowAt h.received h.cursor with
  | none => if h.endOfInput then h.finish else h.readSource
  | some w =>
    if syncOk w then { h with phase := .validating h.cursor w none } else h.skip

/-- To Resyncing (R175), remembering the cause (R183). -/
def fail (attempt : Nat) (cause : ErrorKind) (h : Scanner) : Scanner :=
  { h with phase := .resyncing attempt cause }

/-- Append the frame and move past it (R175). -/
def append (attempt : Nat) (x : Sample) (h : Scanner) : Scanner :=
  { h with frames := h.frames ++ [frameOf attempt x], cursor := attempt + x.length,
           bytesConsumed := h.bytesConsumed + x.length, phase := .seeking }

/-- Validating with a header and a length in hand (R175): append the frame when all its bytes are there; else suspend, keeping what has been
read (R180), or, at end-of-input, `TruncatedPayload` (R178). -/
def frameOrWait (attempt : Nat) (window : Word) (x : Sample) (h : Scanner) : Scanner :=
  if attempt + x.length ≤ h.received.length then h.append attempt x
  else if h.endOfInput then h.fail attempt .truncatedPayload
  else { h.readSource with phase := .validating attempt window (some x) }

/-- Validating while the result is awaited (R175, R177): every error, the free bit rate's among them, goes to Resyncing. -/
def validate (ports : ResultRegs) (attempt : Nat) (window : Word) (h : Scanner) : Scanner :=
  match readPorts ports with
  | .notReady => h
  | .rejected cause => h.fail attempt cause
  | .framed x => h.frameOrWait attempt window x

/-- Resyncing (R176): one byte on from the attempt, back to Seeking. -/
def resync (attempt : Nat) (h : Scanner) : Scanner :=
  { h with cursor := attempt + 1, bytesConsumed := h.bytesConsumed + 1, phase := .seeking }

/-- At a Seeking boundary the caller decides whether it goes on pulling (R181; log 18): its next decision, else as before. -/
def ask (h : Scanner) : Scanner :=
  match h.pulls with
  | p :: rest => { h with pulling := p, pulls := rest }
  | [] => h

/-- Seeking under the caller's decision (R181): a caller that does not pull holds the scanner where it is. -/
def seekIfPulled (h : Scanner) : Scanner := if h.ask.pulling then h.ask.seek else h.ask

/-- One transition of the scanner, given what the ports show (R173; one per edge, log 4). A caller that has stopped pulling holds it at a
Seeking or Done boundary (R181; log 18). -/
def turn (ports : ResultRegs) (h : Scanner) : Scanner :=
  match h.phase with
  | .seeking => h.seekIfPulled
  | .validating attempt window none => h.validate ports attempt window
  | .validating attempt window (some x) => h.frameOrWait attempt window x
  | .resyncing attempt _ => h.resync attempt
  | .done => h

/-- What the scanner drives at the ports (R184): the window it wants decoded, for one edge; otherwise no word (log 16). -/
def drive (h : Scanner) : Pins :=
  match h.phase with
  | .validating _ window none => .present window
  | _ => .idle

/-- The skipped-byte count (R179, R183, C8): bytes consumed less the lengths of the frames. -/
def skippedBytes (h : Scanner) : Nat :=
  h.bytesConsumed - (h.frames.map (fun f => f.payloadHi - f.atOffset)).sum

end Scanner

/-- What a window decodes to for the scanner (R175): a header with a defined length, or nothing. -/
def sampleOf (w : Word) : Option Sample :=
  match hdec Config.roms (fieldsOf w) with
  | .ok h =>
    match flen Config.roms h with
    | .ok n => some ⟨h, n⟩
    | .error _ => none
  | .error _ => none

/-- The frames of a whole stream from an offset on, read straight off the rules of Seeking, Validating and Resyncing with all bytes at
hand (R174 to R179): a frame where a window decodes with a length that fits, else one byte on. The fuel bounds the
number of windows. -/
def framesFrom (bytes : List Byte) : Nat → Nat → List Frame
  | 0, _ => []
  | fuel + 1, pos =>
    match windowAt bytes pos with
    | none => []
    | some w =>
      match sampleOf w with
      | some x =>
        if pos + x.length ≤ bytes.length then frameOf pos x :: framesFrom bytes fuel (pos + x.length)
        else framesFrom bytes fuel (pos + 1)
      | none => framesFrom bytes fuel (pos + 1)

/-- The frames of a whole stream. -/
def framesOf (bytes : List Byte) : List Frame := framesFrom bytes (bytes.length + 1) 0

end Sys2Proof.Machine
end

