-- ==== Sys2Proof/Machine/Clock.lean ====
section
/-! DEFINITION. One rising clock edge (70_reset_and_hazards R243) and what the host and the outside world do until the next one. -/

namespace Sys2Proof.Machine

/-- Run rows one after another: the steps of HDEC as separate instructions (40_header_decoder R114). -/
def runRows : List Instr → State → Answer
  | [], s => .next s
  | i :: rest, s => andThen (exec i s) (runRows rest)

/-- The edge with `rst` = 1 (R242): every result register to its reset value, whatever the other inputs. -/
def resetEdge (s : State) : State := s.setRegs .reset

/-- The edge with no word (R30): `out_valid` falls, the rest is kept. -/
def idleEdge (s : State) : State := s.setRegs { s.regs with outValid := false }

/-- FLEN in the block (R160, R243): it runs on the record HDEC left in the header registers, in the same transaction, and not after an
error. -/
def flenStage (s : State) : Answer :=
  if s.regs.outStatus = statusOk then
    match s.regs.header? with
    | some h => exec (.flen h) s
    | none => .refused .invalidRecord
  else .next s

/-- The edge that accepts a word (R243): the instruction the word is, then FLEN. -/
def wordEdge (s : State) : Answer := andThen (exec (decodeWord s.pins.inWord) s) flenStage

/-- One rising edge of the block (R243): reset, then no word, then a word. -/
def clockEdge (s : State) : Answer :=
  if s.pins.rst then .next (resetEdge s)
  else if s.pins.inValid then wordEdge s
  else .next (idleEdge s)

/-- After an edge the scanner drove, it reads the ports and makes one transition (R184; log 4). -/
def hostTurn (s : State) : State :=
  match s.driver with
  | .scanner => { s with host := s.host.turn s.regs }
  | .outside => s

/-- The port values for the coming edge: the outside world's next ones, else what the scanner drives (log 4). -/
def nextPins (s : State) : State :=
  match s.inputs with
  | p :: rest => { s with pins := p, inputs := rest, driver := .outside }
  | [] => { s with pins := s.host.drive, driver := .scanner }

/-- Between two edges. -/
def betweenEdges (s : State) : State := nextPins (hostTurn s)

end Sys2Proof.Machine
end

