-- ==== Sys2Proof/Machine/Step.lean ====
section
/-! DEFINITION. One step: one rising edge of the block (70_reset_and_hazards R243), then the world until the next edge. -/

namespace Sys2Proof.Machine

/-- One step of the machine. -/
def step (s : State) : Host.Outcome State Fault Refusal :=
  andThen (clockEdge s) (fun t => .next (betweenEdges t))

/-- A word presented at the ports for the coming edge by the outside world, so that the next step decodes and runs exactly it
(log 7). `w` is numbered as the table numbers it; the bits above `nbits` are 0. -/
def State.withFetchWord (s : State) (nbits w : Nat) : State :=
  { s with pins := .present (BitVec.ofNat Config.wordW (w % 2 ^ nbits)), driver := .outside }

end Sys2Proof.Machine
end

