-- ==== Sys2Proof/Machine/Text.lean ====
section
/-! DEFINITION. The textual form of an instruction (30_encoding R80, D19): `HDEC 0xWWWWWWWW`, `FLEN <record>`, and a code-point row by its mnemonic. It carries no behaviour. -/

namespace Sys2Proof

/-- The braces of the notation, as characters. -/
def openBrace : String := String.singleton (Char.ofNat 123)

def closeBrace : String := String.singleton (Char.ofNat 125)

/-- A hexadecimal digit, upper case (DESIGN CHOICE, log 21). -/
def hexDigit (n : Nat) : Char := if n < 10 then Char.ofNat (48 + n) else Char.ofNat (55 + n)

/-- `0x` and eight digits (R8, R80). -/
def hexWord (w : Word) : String :=
  "0x" ++ String.ofList ([7, 6, 5, 4, 3, 2, 1, 0].map (fun k => hexDigit (w.toNat / 16 ^ k % 16)))

def boolText (b : Bool) : String := if b then "true" else "false"

/-- Enumeration members are spelled as the source spells them (R80). -/
def Version.text : Version → String
  | .mpeg1 => "MPEG1"
  | .mpeg2 => "MPEG2"
  | .mpeg25 => "MPEG2.5"

def Layer.text : Layer → String
  | .layerI => "I"
  | .layerII => "II"
  | .layerIII => "III"

def ChannelMode.text : ChannelMode → String
  | .stereo => "Stereo"
  | .jointStereo => "JointStereo"
  | .dualChannel => "DualChannel"
  | .singleChannel => "SingleChannel"

def Emphasis.text : Emphasis → String
  | .none => "None"
  | .ms5015 => "Ms5015"
  | .ccitJ17 => "CcitJ17"

def JointStereoExt.text : JointStereoExt → String
  | .absent => "None"
  | .bandStart n => "BandStart(" ++ toString n ++ ")"
  | .stereoFlags i m =>
    "StereoFlags" ++ openBrace ++ "intensity=" ++ boolText i ++ ", ms=" ++ boolText m ++ closeBrace

/-- A record, in the fixed field order of R80. -/
def FrameHeader.text (h : FrameHeader) : String :=
  openBrace ++ "version=" ++ h.version.text ++ ", layer=" ++ h.layer.text ++
    ", has_crc=" ++ boolText h.hasCrc ++ ", bit_rate_bps=" ++ toString h.bitRateBps ++
    ", sample_rate_hz=" ++ toString h.sampleRateHz ++ ", padded=" ++ boolText h.padded ++
    ", private=" ++ boolText h.privateBit ++ ", channel_mode=" ++ h.channelMode.text ++
    ", jse=" ++ h.jointStereoExt.text ++ ", copyrighted=" ++ boolText h.copyrighted ++
    ", original=" ++ boolText h.original ++ ", emphasis=" ++ h.emphasis.text ++ closeBrace

/-- The row's name in the opcode table. -/
def Instr.mnemonic : Instr → String
  | .hdec _ => "HDEC"
  | .flen _ => "FLEN"
  | .versionMpeg25 => "version.MPEG2_5"
  | .versionReserved => "version.reserved"
  | .versionMpeg2 => "version.MPEG2"
  | .versionMpeg1 => "version.MPEG1"
  | .layerReserved => "layer.reserved"
  | .layerIII => "layer.III"
  | .layerII => "layer.II"
  | .layerI => "layer.I"
  | .protectionProtected => "protection.protected"
  | .protectionUnprotected => "protection.unprotected"
  | .bitrateIdx0 => "bitrate_idx.0"
  | .bitrateIdx1 => "bitrate_idx.1"
  | .bitrateIdx2 => "bitrate_idx.2"
  | .bitrateIdx3 => "bitrate_idx.3"
  | .bitrateIdx4 => "bitrate_idx.4"
  | .bitrateIdx5 => "bitrate_idx.5"
  | .bitrateIdx6 => "bitrate_idx.6"
  | .bitrateIdx7 => "bitrate_idx.7"
  | .bitrateIdx8 => "bitrate_idx.8"
  | .bitrateIdx9 => "bitrate_idx.9"
  | .bitrateIdx10 => "bitrate_idx.10"
  | .bitrateIdx11 => "bitrate_idx.11"
  | .bitrateIdx12 => "bitrate_idx.12"
  | .bitrateIdx13 => "bitrate_idx.13"
  | .bitrateIdx14 => "bitrate_idx.14"
  | .bitrateIdx15 => "bitrate_idx.15"
  | .srateIdx0 => "srate_idx.0"
  | .srateIdx1 => "srate_idx.1"
  | .srateIdx2 => "srate_idx.2"
  | .srateIdx3 => "srate_idx.3"
  | .padding0 => "padding.0"
  | .padding1 => "padding.1"
  | .privateBit0 => "private.0"
  | .privateBit1 => "private.1"
  | .modeStereo => "mode.Stereo"
  | .modeJointStereo => "mode.JointStereo"
  | .modeDualChannel => "mode.DualChannel"
  | .modeSingleChannel => "mode.SingleChannel"
  | .modeExtJsLayerI0 => "mode_ext.JS.LayerI.0"
  | .modeExtJsLayerI1 => "mode_ext.JS.LayerI.1"
  | .modeExtJsLayerI2 => "mode_ext.JS.LayerI.2"
  | .modeExtJsLayerI3 => "mode_ext.JS.LayerI.3"
  | .modeExtJsLayerII0 => "mode_ext.JS.LayerII.0"
  | .modeExtJsLayerII1 => "mode_ext.JS.LayerII.1"
  | .modeExtJsLayerII2 => "mode_ext.JS.LayerII.2"
  | .modeExtJsLayerII3 => "mode_ext.JS.LayerII.3"
  | .modeExtJsLayerIII0 => "mode_ext.JS.LayerIII.0"
  | .modeExtJsLayerIII1 => "mode_ext.JS.LayerIII.1"
  | .modeExtJsLayerIII2 => "mode_ext.JS.LayerIII.2"
  | .modeExtJsLayerIII3 => "mode_ext.JS.LayerIII.3"
  | .modeExtIgnoredStereo => "mode_ext.ignored.Stereo"
  | .modeExtIgnoredDualChannel => "mode_ext.ignored.DualChannel"
  | .modeExtIgnoredSingleChannel => "mode_ext.ignored.SingleChannel"
  | .copyright0 => "copyright.0"
  | .copyright1 => "copyright.1"
  | .original0 => "original.0"
  | .original1 => "original.1"
  | .emphasisNone => "emphasis.None"
  | .emphasisMs5015 => "emphasis.Ms5015"
  | .emphasisReserved => "emphasis.reserved"
  | .emphasisCcitJ17 => "emphasis.CcitJ17"
  | .l2checkMpeg1Rate32kStereo => "l2check.MPEG1.32k.Stereo"
  | .l2checkMpeg1Rate32kJointStereo => "l2check.MPEG1.32k.JointStereo"
  | .l2checkMpeg1Rate32kDualChannel => "l2check.MPEG1.32k.DualChannel"
  | .l2checkMpeg1Rate48kStereo => "l2check.MPEG1.48k.Stereo"
  | .l2checkMpeg1Rate48kJointStereo => "l2check.MPEG1.48k.JointStereo"
  | .l2checkMpeg1Rate48kDualChannel => "l2check.MPEG1.48k.DualChannel"
  | .l2checkMpeg1Rate56kStereo => "l2check.MPEG1.56k.Stereo"
  | .l2checkMpeg1Rate56kJointStereo => "l2check.MPEG1.56k.JointStereo"
  | .l2checkMpeg1Rate56kDualChannel => "l2check.MPEG1.56k.DualChannel"
  | .l2checkMpeg1Rate80kStereo => "l2check.MPEG1.80k.Stereo"
  | .l2checkMpeg1Rate80kJointStereo => "l2check.MPEG1.80k.JointStereo"
  | .l2checkMpeg1Rate80kDualChannel => "l2check.MPEG1.80k.DualChannel"
  | .l2checkMpeg1Rate224kSingleChannel => "l2check.MPEG1.224k.SingleChannel"
  | .l2checkMpeg1Rate256kSingleChannel => "l2check.MPEG1.256k.SingleChannel"
  | .l2checkMpeg1Rate320kSingleChannel => "l2check.MPEG1.320k.SingleChannel"
  | .l2checkMpeg1Rate384kSingleChannel => "l2check.MPEG1.384k.SingleChannel"
  | .l2checkMpeg2Rate32kStereo => "l2check.MPEG2.32k.Stereo"
  | .l2checkMpeg2Rate32kJointStereo => "l2check.MPEG2.32k.JointStereo"
  | .l2checkMpeg2Rate32kDualChannel => "l2check.MPEG2.32k.DualChannel"
  | .l2checkMpeg2Rate48kStereo => "l2check.MPEG2.48k.Stereo"
  | .l2checkMpeg2Rate48kJointStereo => "l2check.MPEG2.48k.JointStereo"
  | .l2checkMpeg2Rate48kDualChannel => "l2check.MPEG2.48k.DualChannel"
  | .l2checkMpeg2Rate56kStereo => "l2check.MPEG2.56k.Stereo"
  | .l2checkMpeg2Rate56kJointStereo => "l2check.MPEG2.56k.JointStereo"
  | .l2checkMpeg2Rate56kDualChannel => "l2check.MPEG2.56k.DualChannel"
  | .l2checkMpeg2Rate80kStereo => "l2check.MPEG2.80k.Stereo"
  | .l2checkMpeg2Rate80kJointStereo => "l2check.MPEG2.80k.JointStereo"
  | .l2checkMpeg2Rate80kDualChannel => "l2check.MPEG2.80k.DualChannel"
  | .l2checkMpeg25Rate32kStereo => "l2check.MPEG2.5.32k.Stereo"
  | .l2checkMpeg25Rate32kJointStereo => "l2check.MPEG2.5.32k.JointStereo"
  | .l2checkMpeg25Rate32kDualChannel => "l2check.MPEG2.5.32k.DualChannel"
  | .l2checkMpeg25Rate48kStereo => "l2check.MPEG2.5.48k.Stereo"
  | .l2checkMpeg25Rate48kJointStereo => "l2check.MPEG2.5.48k.JointStereo"
  | .l2checkMpeg25Rate48kDualChannel => "l2check.MPEG2.5.48k.DualChannel"
  | .l2checkMpeg25Rate56kStereo => "l2check.MPEG2.5.56k.Stereo"
  | .l2checkMpeg25Rate56kJointStereo => "l2check.MPEG2.5.56k.JointStereo"
  | .l2checkMpeg25Rate56kDualChannel => "l2check.MPEG2.5.56k.DualChannel"
  | .l2checkMpeg25Rate80kStereo => "l2check.MPEG2.5.80k.Stereo"
  | .l2checkMpeg25Rate80kJointStereo => "l2check.MPEG2.5.80k.JointStereo"
  | .l2checkMpeg25Rate80kDualChannel => "l2check.MPEG2.5.80k.DualChannel"

/-- The text of an instruction. -/
def Instr.text (i : Instr) : String :=
  match i with
  | .hdec f => "HDEC " ++ hexWord (wordOf f)
  | .flen h => "FLEN " ++ h.text
  | i => i.mnemonic

end Sys2Proof
end

