-- ==== Sys2Proof/Safety.lean ====
section
/-! DEFINITION. What holds of the machine between edges (10_state R22, R28, R29; 45_host_stream_scanner R172 to R179): the invariant claims are stated with. -/

namespace Sys2Proof.Machine

/-- `k` steps, stopping at the first fault or refusal. -/
def runSteps : Nat → State → Answer
  | 0, s => .next s
  | k + 1, s => andThen (step s) (runSteps k)

/-- What the machine is `LATENCY` edges on: the result of the word at the ports is registered (70_reset_and_hazards R248). -/
def State.afterLatency (s : State) : Answer := runSteps Config.latency s

/-- The length registers say what `FLEN` returned for a record (10_state R28). -/
def ResultRegs.lengthIs (r : ResultRegs) (l : Except LengthError Nat) : Prop :=
  match l with
  | .ok n => r.lenStatus = 0#2 ∧ r.lenBytes.toNat = n
  | .error .undefinedFrameLength => r.lenStatus = 1#2 ∧ r.lenBytes = 0#16

/-- The result registers between edges (R22, R28, R29, R73). -/
structure ResultRegs.Inv (r : ResultRegs) : Prop where
  /-- a result with status 0 is a valid header and its length -/
  headerValid : r.outValid = true → r.outStatus = 0#4 →
    ∃ h, r.header? = some h ∧ h.valid Config.roms = true ∧ r.lengthIs (flen Config.roms h)
  /-- a result with another status is one of the seven errors and no header -/
  errorBank : r.outValid = true → r.outStatus ≠ 0#4 → ∃ e, r = ResultRegs.ofError e
  /-- the value 3 of `len_status` never occurs -/
  lenStatusCode : r.lenStatus ≠ 3#2
  /-- tag 3 never occurs -/
  jseTagCode : r.hdrJseTag ≠ 3#2

/-- A frame is what its header says (R171, R175, R156): its payload range follows header and CRC and ends where `FLEN` says. -/
structure Frame.WellPlaced (f : Frame) : Prop where
  header : f.header.valid Config.roms = true
  length : flen Config.roms f.header = .ok (f.payloadHi - f.atOffset)
  payload : f.payloadLo = f.atOffset + 4 + crcAdjust f.header
  nonempty : f.payloadLo < f.payloadHi

/-- The phase agrees with the cursor and the buffer (R174 to R179). -/
def Scanner.phaseInv (h : Scanner) : Prop :=
  match h.phase with
  | .seeking => True
  | .validating attempt window sampled =>
    attempt = h.cursor ∧ windowAt h.received attempt = some window ∧ syncOk window = true ∧
      ∀ x, sampled = some x → sampleOf window = some x
  | .resyncing attempt _ => attempt = h.cursor ∧ attempt < h.received.length
  | .done => h.endOfInput = true ∧ h.cursor = h.received.length

/-- The scanner between edges (R172, R173, R179). -/
structure Scanner.Inv (h : Scanner) : Prop where
  /-- `bytes_consumed` equals `cursor` at all times (R172) -/
  counted : h.bytesConsumed = h.cursor
  /-- nothing is consumed before it is received -/
  bounded : h.cursor ≤ h.received.length
  /-- frames stand in byte order and do not overlap (R172) -/
  ordered : h.frames.Pairwise (fun f g => f.payloadHi ≤ g.atOffset)
  /-- every frame is well placed and already consumed -/
  placed : ∀ f ∈ h.frames, f.WellPlaced ∧ f.payloadHi ≤ h.cursor
  /-- end-of-input comes after the source's last delivery -/
  ended : h.endOfInput = true → h.reads = [] ∧ h.sourceEnds = true
  phase : h.phaseInv

/-- The machine between edges. -/
structure State.Inv (s : State) : Prop where
  regs : s.regs.Inv
  host : s.host.Inv
  /-- when the scanner drives, the ports carry what it drives (R184) -/
  driven : s.driver = .scanner → s.pins = s.host.drive

end Sys2Proof.Machine
end

