-- ==== Sys2Proof/Certificates/Slice0/Obligations.lean ====
section
/-! DEFINITION. The statements for the provers, from the numbered rules of spec/. The helpers under Sys2Proof.Claims spell out register values in numbers, apart from the operations of the model. -/

namespace Sys2Proof.Claims

open Sys2Proof.Machine

/-- The reset values, spelled out (70_reset_and_hazards R242). -/
def resetRegs : ResultRegs :=
  { outValid := false, outStatus := 0#4, hdrVersion := 0#2, hdrLayer := 0#2, hdrHasCrc := false,
    hdrBitRateBps := 0#19, hdrSampleRateHz := 0#16, hdrPadded := false, hdrPrivate := false,
    hdrChannelMode := 0#2, hdrJseTag := 0#2, hdrBandStart := 0#5, hdrIntensity := false, hdrMs := false,
    hdrCopyrighted := false, hdrOriginal := false, hdrEmphasis := 0#2, lenStatus := 2#2, lenBytes := 0#16 }

/-- What a header error of a given code leaves (60_exceptions R212, 10_state R29). -/
def errorRegs (code : BitVec 4) : ResultRegs := { resetRegs with outValid := true, outStatus := code }

/-- The status codes, spelled out (60_exceptions R200). -/
def statusCode : HeaderError → BitVec 4
  | .syncWordMissing => 1#4
  | .reservedVersion => 2#4
  | .reservedLayer => 3#4
  | .invalidBitrateIndex => 4#4
  | .reservedSampleRate => 5#4
  | .reservedEmphasis => 6#4
  | .prohibitedBitrateChannelCombination => 7#4

/-- The port codes of the enumerations, spelled out (30_encoding R72). -/
def versionCode : Version → BitVec 2
  | .mpeg1 => 3#2
  | .mpeg2 => 2#2
  | .mpeg25 => 0#2

def layerCode : Layer → BitVec 2
  | .layerI => 3#2
  | .layerII => 2#2
  | .layerIII => 1#2

def modeCode : ChannelMode → BitVec 2
  | .stereo => 0#2
  | .jointStereo => 1#2
  | .dualChannel => 2#2
  | .singleChannel => 3#2

def emphasisCode : Emphasis → BitVec 2
  | .none => 0#2
  | .ms5015 => 1#2
  | .ccitJ17 => 3#2

/-- The four registers of the union, spelled out (30_encoding R73): tag, band start, intensity, ms. -/
def jseRegs : JointStereoExt → BitVec 2 × BitVec 5 × Bool × Bool
  | .absent => (0#2, 0#5, false, false)
  | .bandStart n => (1#2, BitVec.ofNat 5 n, false, false)
  | .stereoFlags i m => (2#2, 0#5, i, m)

/-- The registers with a header in them, spelled out (30_encoding R72 to R74). -/
def headerRegs (r : ResultRegs) (h : FrameHeader) : ResultRegs :=
  { outValid := true, outStatus := 0#4, hdrVersion := versionCode h.version, hdrLayer := layerCode h.layer,
    hdrHasCrc := h.hasCrc, hdrBitRateBps := BitVec.ofNat 19 h.bitRateBps,
    hdrSampleRateHz := BitVec.ofNat 16 h.sampleRateHz, hdrPadded := h.padded, hdrPrivate := h.privateBit,
    hdrChannelMode := modeCode h.channelMode, hdrJseTag := (jseRegs h.jointStereoExt).1,
    hdrBandStart := (jseRegs h.jointStereoExt).2.1, hdrIntensity := (jseRegs h.jointStereoExt).2.2.1,
    hdrMs := (jseRegs h.jointStereoExt).2.2.2, hdrCopyrighted := h.copyrighted, hdrOriginal := h.original,
    hdrEmphasis := emphasisCode h.emphasis, lenStatus := r.lenStatus, lenBytes := r.lenBytes }

/-- The next registers of the step rule (70_reset_and_hazards R243), as a function of the registers and the input ports. -/
def nextRegs (r : ResultRegs) (p : Pins) : ResultRegs :=
  if p.rst then resetRegs
  else if !p.inValid then { r with outValid := false }
  else
    match hdec Config.roms (fieldsOf p.inWord) with
    | .error e => errorRegs (statusCode e)
    | .ok h =>
      match flen Config.roms h with
      | .ok n => { headerRegs r h with lenStatus := 0#2, lenBytes := BitVec.ofNat 16 n }
      | .error _ => { headerRegs r h with lenStatus := 1#2, lenBytes := 0#16 }

/-- A scanner's machine at the start of a parse (45_host_stream_scanner R173): nothing presented, any register contents, a source that
delivers `reads` and then ends, a caller that pulls throughout (log 4, log 5, log 18). -/
structure ParseStart (s : State) (reads : List (List Byte)) : Prop where
  pins : s.pins = Pins.idle
  driver : s.driver = .scanner
  inputs : s.inputs = []
  host : s.host = Scanner.start reads true

/-- The machine reaches Done with exactly these frames and this count of consumed bytes, and no step of the way stops it. -/
def ParsesTo (s : State) (frames : List Frame) (consumed : Nat) : Prop :=
  ∃ k t, runSteps k s = .next t ∧ t.host.phase = .done ∧ t.host.frames = frames ∧ t.host.bytesConsumed = consumed

/-- A well-formed frame as bytes (45_host_stream_scanner R185): a header word HDEC accepts with a defined length, and the bytes that
follow it. -/
structure FrameBytes where
  word : Word
  sample : Sample
  body : List Byte
  accepted : sampleOf word = some sample
  full : body.length + 4 = sample.length

/-- The stream bytes of a frame. -/
def FrameBytes.bytes (f : FrameBytes) : List Byte := bytesOfWord f.word ++ f.body

/-- The frames of back-to-back frame bytes, from an offset on. -/
def framesAt : Nat → List FrameBytes → List Frame
  | _, [] => []
  | pos, f :: rest => frameOf pos f.sample :: framesAt (pos + f.sample.length) rest

end Sys2Proof.Claims

open Sys2Proof Sys2Proof.Machine Sys2Proof.Claims

/-- An edge with rst = 1 leaves every result register at its reset value (R242). -/
def Obligations.ResetEdgeWritesResetValues : Prop :=
  ∀ s : State, s.pins.rst = true → ∃ t, step s = .next t ∧ t.regs = resetRegs

/-- The reset state has the reset register values and the invariant (70_reset_and_hazards.md section 3, 45_host_stream_scanner.md section 2; the port and source values of State.reset are the model's choice, log 6). -/
def Obligations.ResetStateHoldsInvariant : Prop :=
  State.reset.regs = resetRegs ∧ State.reset.host.phase = .seeking ∧ State.reset.host.cursor = 0 ∧
  State.reset.host.frames = [] ∧ State.reset.host.bytesConsumed = 0 ∧ State.reset.Inv

/-- An edge without a word clears out_valid and keeps every other register (R30). -/
def Obligations.IdleEdgeClearsOnlyOutValid : Prop :=
  ∀ s : State, s.pins.rst = false → s.pins.inValid = false →
    ∃ t, step s = .next t ∧ t.regs = { s.regs with outValid := false }

/-- A step with a word at the ports runs the decoded instruction, then FLEN, then the host's part (70_reset_and_hazards.md section 2, 42_frame_length.md section 4; which instruction a word is, and FLEN as the second stage of the same edge, are log 10 and log 14). -/
def Obligations.StepRunsDecodedInstruction : Prop :=
  ∀ (s : State) (i : Instr), s.pins.rst = false → s.pins.inValid = true →
    decode (bytesOfWord s.pins.inWord) = .ok (i, []) →
    step s = andThen (exec i s) (fun t => andThen (flenStage t) (fun u => .next (betweenEdges u)))

/-- Every edge is total and leaves exactly the registers of the step rule (R243). -/
def Obligations.EdgeFollowsStepRule : Prop :=
  ∀ s : State, ∃ t, step s = .next t ∧ t.regs = nextRegs s.regs s.pins

/-- The result of an accepted word does not depend on what the registers held before (70_reset_and_hazards.md section 5, 70_reset_and_hazards.md section 6; the spec marks the sentence as derived from its R20 and R243, at R245). -/
def Obligations.ResultIndependentOfHistory : Prop :=
  ∀ s s' : State, s.pins = s'.pins → s.pins.rst = false → s.pins.inValid = true →
    ∃ t t', s.afterLatency = .next t ∧ s'.afterLatency = .next t' ∧ t.regs = t'.regs ∧ t.regs.outValid = true

/-- HDEC completes on every word and writes the header registers or the error registers (40_header_decoder.md section 1, 30_encoding.md section 3, 60_exceptions.md section 4; that HDEC alone leaves the length registers to FLEN is the model's reading, log 14). -/
def Obligations.HdecWritesHeaderOrError : Prop :=
  ∀ (f : HeaderFields) (s : State),
    (∀ h, hdec Config.roms f = .ok h → exec (.hdec f) s = .next { s with regs := headerRegs s.regs h }) ∧
    (∀ e, hdec Config.roms f = .error e → exec (.hdec f) s = .next { s with regs := errorRegs (statusCode e) })

/-- The header registers of a valid record read back as that record (30_encoding.md section 3, 10_state.md section 4). -/
def Obligations.PortCodesReadBack : Prop :=
  ∀ (h : FrameHeader) (r : ResultRegs), h.valid Config.roms = true → (headerRegs r h).header? = some h

/-- HDEC reports the error of the earliest failing step, and exactly then (30_encoding.md section 5, 40_header_decoder.md section 3; the classification the spec marks as derived from its R114, at R76). -/
def Obligations.HdecReportsEarliestFailingStep : Prop :=
  ∀ (R : Roms) (f : HeaderFields),
    (hdec R f = .error .syncWordMissing ↔ f.sync ≠ 0x7FF#11) ∧
    (hdec R f = .error .reservedVersion ↔ f.sync = 0x7FF#11 ∧ f.version = 0b01#2) ∧
    (hdec R f = .error .reservedLayer ↔ f.sync = 0x7FF#11 ∧ f.version ≠ 0b01#2 ∧ f.layer = 0b00#2) ∧
    (hdec R f = .error .invalidBitrateIndex ↔
      f.sync = 0x7FF#11 ∧ f.version ≠ 0b01#2 ∧ f.layer ≠ 0b00#2 ∧ f.bitrateIdx = 0b1111#4) ∧
    (hdec R f = .error .reservedSampleRate ↔
      f.sync = 0x7FF#11 ∧ f.version ≠ 0b01#2 ∧ f.layer ≠ 0b00#2 ∧ f.bitrateIdx ≠ 0b1111#4 ∧ f.srateIdx = 0b11#2) ∧
    (hdec R f = .error .reservedEmphasis ↔
      f.sync = 0x7FF#11 ∧ f.version ≠ 0b01#2 ∧ f.layer ≠ 0b00#2 ∧ f.bitrateIdx ≠ 0b1111#4 ∧ f.srateIdx ≠ 0b11#2 ∧
      f.emphasis = 0b10#2) ∧
    (hdec R f = .error .prohibitedBitrateChannelCombination ↔
      f.sync = 0x7FF#11 ∧ f.version ≠ 0b01#2 ∧ f.layer = 0b10#2 ∧ f.bitrateIdx ≠ 0b1111#4 ∧ f.srateIdx ≠ 0b11#2 ∧
      f.emphasis ≠ 0b10#2 ∧
      ∃ v bps, decodeVersion f.version = .ok v ∧ decodeBitrate R v .layerII f.bitrateIdx = .ok bps ∧
        ((f.mode ≠ 0b11#2 ∧ bps ∈ [32000, 48000, 56000, 80000]) ∨
          (f.mode = 0b11#2 ∧ bps ∈ [224000, 256000, 320000, 384000]))) ∧
    ((∃ h, hdec R f = .ok h) ∨ ∃ e, hdec R f = .error e)

/-- Every field of an accepted header is assembled from the word as the assembly table says (30_encoding.md section 4; the assembly table the spec marks as derived from its rules R62 to R70, at R75). -/
def Obligations.HdecAssemblesEveryField : Prop :=
  ∀ (R : Roms) (f : HeaderFields) (h : FrameHeader), hdec R f = .ok h →
    versionCode h.version = f.version ∧ layerCode h.layer = f.layer ∧ modeCode h.channelMode = f.mode ∧
    emphasisCode h.emphasis = f.emphasis ∧ (h.hasCrc = true ↔ f.protection = 0#1) ∧
    (h.padded = true ↔ f.padding = 1#1) ∧ (h.privateBit = true ↔ f.privateBit = 1#1) ∧
    (h.copyrighted = true ↔ f.copyright = 1#1) ∧ (h.original = true ↔ f.original = 1#1) ∧
    (f.bitrateIdx = 0#4 → h.bitRateBps = 0) ∧
    (f.bitrateIdx ≠ 0#4 → memRead R .bitrateRom
      (16 * (bitrateCol h.version h.layer).val + f.bitrateIdx.toNat) = some h.bitRateBps) ∧
    memRead R .sampleRateRom (4 * h.version.vcol.val + f.srateIdx.toNat) = some h.sampleRateHz ∧
    (h.channelMode ≠ .jointStereo → h.jointStereoExt = .absent) ∧
    (h.channelMode = .jointStereo → h.layer ≠ .layerIII →
      h.jointStereoExt = .bandStart (4 * (f.modeExt.toNat + 1))) ∧
    (h.channelMode = .jointStereo → h.layer = .layerIII →
      h.jointStereoExt = .stereoFlags (f.modeExt.getLsbD 0) (f.modeExt.getLsbD 1))

/-- Every header HDEC returns satisfies the validity invariant (40_header_decoder.md section 3; the invariant the spec marks as derived from its rules R102 to R113, at R115). -/
def Obligations.HdecReturnsValidHeader : Prop :=
  ∀ (R : Roms) (f : HeaderFields) (h : FrameHeader), R.Admissible → hdec R f = .ok h →
    (h.bitRateBps = 0 ∨ ∃ i : Fin 15, i ≠ 0 ∧ h.bitRateBps = (R.bitrate i (bitrateCol h.version h.layer)).toNat) ∧
    (∃ i, h.sampleRateHz = (R.sampleRate i h.version.vcol).toNat) ∧ h.sampleRateHz ≠ 0 ∧
    (h.jointStereoExt = .absent ↔ h.channelMode ≠ .jointStereo) ∧
    ((∃ n ∈ [4, 8, 12, 16], h.jointStereoExt = .bandStart n) ↔
      h.channelMode = .jointStereo ∧ (h.layer = .layerI ∨ h.layer = .layerII)) ∧
    ((∃ i m, h.jointStereoExt = .stereoFlags i m) ↔ h.channelMode = .jointStereo ∧ h.layer = .layerIII) ∧
    (h.layer = .layerII → ¬ (h.channelMode ≠ .singleChannel ∧ h.bitRateBps ∈ [32000, 48000, 56000, 80000]) ∧
      ¬ (h.channelMode = .singleChannel ∧ h.bitRateBps ∈ [224000, 256000, 320000, 384000])) ∧
    h.valid R = true

/-- Two accepted words give equal records exactly when they differ in ignored bits at most (40_header_decoder.md section 3; the spec marks it as derived from its rules R102 to R113, R132 and R134, at R118; the ROM rows behind it are log 1 and log 2). -/
def Obligations.EqualRecordsFromWords : Prop :=
  ∀ (w w' : Word) (h h' : FrameHeader),
    hdec Config.roms (fieldsOf w) = .ok h → hdec Config.roms (fieldsOf w') = .ok h' →
    (h = h' ↔ w = w' ∨ ((fieldsOf w).mode = (fieldsOf w').mode ∧ (fieldsOf w).mode ≠ 0b01#2 ∧
      w &&& 0xFFFFFFCF#32 = w' &&& 0xFFFFFFCF#32))

/-- FLEN writes the exact frame length of a valid record, or UndefinedFrameLength for bit rate 0 (R151, R153, R154, R155). -/
def Obligations.FlenComputesFrameLength : Prop :=
  (∀ (h : FrameHeader) (s : State), h.valid Config.roms = true →
    (h.bitRateBps = 0 →
      exec (.flen h) s = .next { s with regs := { s.regs with lenStatus := 1#2, lenBytes := 0#16 } }) ∧
    (h.bitRateBps ≠ 0 → ∃ len : BitVec 16,
      exec (.flen h) s = .next { s with regs := { s.regs with lenStatus := 0#2, lenBytes := len } } ∧
      len.toNat =
        (match h.layer, h.version with
          | .layerI, _ => 384
          | .layerII, _ => 1152
          | .layerIII, .mpeg1 => 1152
          | .layerIII, _ => 576) * h.bitRateBps / (8 * h.sampleRateHz) +
        (if h.padded then 1 else 0) + (if h.hasCrc then 2 else 0))) ∧
  (∀ (f : HeaderFields) (h : FrameHeader), hdec Config.roms f = .ok h → (h.bitRateBps = 0 ↔ f.bitrateIdx = 0#4))

/-- FLEN has no result on a record that breaks the validity rule (42_frame_length.md section 4; refusing it is what the spec asks of a model at R161, log 13). -/
def Obligations.FlenRefusesInvalidRecord : Prop :=
  ∀ (h : FrameHeader) (s : State), h.valid Config.roms = false → exec (.flen h) s = .refused .invalidRecord

/-- With the default ROMs every defined frame length lies between 24 and 2883, and both are attained (42_frame_length.md section 3; the range the spec marks as derived by enumeration, at R159; the ROM rows behind it are log 1 and log 2). -/
def Obligations.FrameLengthRange : Prop :=
  (∀ h : FrameHeader, h.valid Config.roms = true → h.bitRateBps ≠ 0 →
    ∃ n, flen Config.roms h = .ok n ∧ 24 ≤ n ∧ n ≤ 2883 ∧ 20 ≤ payloadLen h n) ∧
  (∃ x, sampleOf 0xFFF31400#32 = some x ∧ x.length = 24 ∧ x.header.version = .mpeg2 ∧ x.header.layer = .layerIII ∧
    x.header.bitRateBps = 8000 ∧ x.header.sampleRateHz = 24000 ∧ x.header.padded = false ∧ x.header.hasCrc = false) ∧
  (∃ x, sampleOf 0xFFE4EA00#32 = some x ∧ x.length = 2883 ∧ x.header.version = .mpeg25 ∧ x.header.layer = .layerII ∧
    x.header.bitRateBps = 160000 ∧ x.header.sampleRateHz = 8000 ∧ x.header.padded = true ∧ x.header.hasCrc = true)

/-- Frame length is monotonic in bit rate with everything else fixed (42_frame_length.md section 3). -/
def Obligations.FrameLengthMonotonicInBitRate : Prop :=
  ∀ (R : Roms) (h : FrameHeader) (b b' n n' : Nat), b ≤ b' →
    flen R { h with bitRateBps := b } = .ok n → flen R { h with bitRateBps := b' } = .ok n' → n ≤ n'

/-- Dividing samples per frame by 8 first gives the same quotient (42_frame_length.md section 2). -/
def Obligations.FrameLengthEquivalentForm : Prop :=
  ∀ (R : Roms) (h : FrameHeader), R.Admissible →
    baseLength R h = samplesPer R h / 8 * h.bitRateBps / h.sampleRateHz ∧
    (samplesPer R h / 8 = 48 ∨ samplesPer R h / 8 = 72 ∨ samplesPer R h / 8 = 144)

/-- With the default ROMs no value of the length computation exceeds its register width (42_frame_length.md section 3, 00_scope.md section 4; the ROM rows behind the bounds are log 1 and log 2). -/
def Obligations.LengthArithmeticFitsWidths : Prop :=
  ∀ h : FrameHeader, h.valid Config.roms = true →
    samplesPer Config.roms h * h.bitRateBps ≤ 442368000 ∧ samplesPer Config.roms h * h.bitRateBps < 2 ^ Config.prodW ∧
    64000 ≤ 8 * h.sampleRateHz ∧ 8 * h.sampleRateHz ≤ 384000 ∧ 8 * h.sampleRateHz < 2 ^ 19 ∧
    h.bitRateBps < 2 ^ Config.brW ∧ h.sampleRateHz < 2 ^ Config.srW ∧
    (∀ n, flen Config.roms h = .ok n → n < 2 ^ Config.lenW)

/-- Steps 2 and 3 classify the version and layer codes (R103, R104). -/
def Obligations.VersionAndLayerStepsClassifyCodes : Prop :=
  (∀ (R : Roms) (f : HeaderFields), f.sync = 0x7FF#11 →
    (hdec R f = .error .reservedVersion ↔ f.version = 0b01#2) ∧
    (f.version ≠ 0b01#2 → (hdec R f = .error .reservedLayer ↔ f.layer = 0b00#2)) ∧
    (∀ h, hdec R f = .ok h →
      (f.version = 0b00#2 → h.version = .mpeg25 ∧ h.version.vcol = 2) ∧
      (f.version = 0b10#2 → h.version = .mpeg2 ∧ h.version.vcol = 1) ∧
      (f.version = 0b11#2 → h.version = .mpeg1 ∧ h.version.vcol = 0) ∧
      (f.layer = 0b01#2 → h.layer = .layerIII ∧ h.layer.lrow = 2) ∧
      (f.layer = 0b10#2 → h.layer = .layerII ∧ h.layer.lrow = 1) ∧
      (f.layer = 0b11#2 → h.layer = .layerI ∧ h.layer.lrow = 0))) ∧
  (∀ l, bitrateCol .mpeg2 l = bitrateCol .mpeg25 l ∧ bitrateCol .mpeg1 l ≠ bitrateCol .mpeg2 l) ∧
  (∀ (f : HeaderFields) (s : State), f.sync = 0x7FF#11 →
    (f.version = 0b01#2 → exec (.hdec f) s = .next { s with regs := errorRegs 2#4 }) ∧
    (f.version ≠ 0b01#2 → f.layer = 0b00#2 → exec (.hdec f) s = .next { s with regs := errorRegs 3#4 })) ∧
  hdec Config.roms (fieldsOf 0xFFEFFFFF#32) = .error .reservedVersion ∧
  hdec Config.roms (fieldsOf 0xFFF00000#32) = .error .reservedLayer

/-- The protection bit, the four flags, the channel mode and the emphasis follow their bits of the word (R67, R68, R111, R113). -/
def Obligations.ProtectionFlagsModeAndEmphasisFollowTheirBits : Prop :=
  (∀ (w : Word) (h : FrameHeader), hdec Config.roms (fieldsOf w) = .ok h →
    (h.hasCrc = true ↔ w.getLsbD 16 = false) ∧ (h.padded = true ↔ w.getLsbD 9 = true) ∧
    (h.privateBit = true ↔ w.getLsbD 8 = true) ∧ (h.copyrighted = true ↔ w.getLsbD 3 = true) ∧
    (h.original = true ↔ w.getLsbD 2 = true) ∧
    (w.extractLsb' 6 2 = 0b00#2 → h.channelMode = .stereo) ∧
    (w.extractLsb' 6 2 = 0b01#2 → h.channelMode = .jointStereo) ∧
    (w.extractLsb' 6 2 = 0b10#2 → h.channelMode = .dualChannel) ∧
    (w.extractLsb' 6 2 = 0b11#2 → h.channelMode = .singleChannel) ∧
    (w.extractLsb' 0 2 = 0b00#2 → h.emphasis = .none) ∧
    (w.extractLsb' 0 2 = 0b01#2 → h.emphasis = .ms5015) ∧
    (w.extractLsb' 0 2 = 0b11#2 → h.emphasis = .ccitJ17) ∧ w.extractLsb' 0 2 ≠ 0b10#2) ∧
  (∀ (f : HeaderFields) (s : State), f.sync = 0x7FF#11 → f.version ≠ 0b01#2 → f.layer ≠ 0b00#2 →
    f.bitrateIdx ≠ 0b1111#4 → f.srateIdx ≠ 0b11#2 → f.emphasis = 0b10#2 →
      exec (.hdec f) s = .next { s with regs := errorRegs 6#4 }) ∧
  hdec Config.roms (fieldsOf 0xFFFB90E2#32) = .error .reservedEmphasis ∧
  (∃ h, hdec Config.roms (fieldsOf 0xFFFB90E3#32) = .ok h ∧ h.emphasis = .ccitJ17 ∧ h.hasCrc = false) ∧
  (∃ h, hdec Config.roms (fieldsOf 0xFFFA90E3#32) = .ok h ∧ h.hasCrc = true)

/-- The mode extension is decoded by channel mode and layer (R69). -/
def Obligations.JointStereoExtensionFollowsModeAndLayer : Prop :=
  ∀ (w : Word) (h : FrameHeader), hdec Config.roms (fieldsOf w) = .ok h →
    (w.extractLsb' 6 2 ≠ 0b01#2 → h.jointStereoExt = .absent) ∧
    (w.extractLsb' 6 2 = 0b01#2 → w.extractLsb' 17 2 ≠ 0b01#2 →
      (w.extractLsb' 4 2 = 0b00#2 → h.jointStereoExt = .bandStart 4) ∧
      (w.extractLsb' 4 2 = 0b01#2 → h.jointStereoExt = .bandStart 8) ∧
      (w.extractLsb' 4 2 = 0b10#2 → h.jointStereoExt = .bandStart 12) ∧
      (w.extractLsb' 4 2 = 0b11#2 → h.jointStereoExt = .bandStart 16)) ∧
    (w.extractLsb' 6 2 = 0b01#2 → w.extractLsb' 17 2 = 0b01#2 →
      h.jointStereoExt = .stereoFlags (w.getLsbD 4) (w.getLsbD 5)) ∧
    ∀ x : BitVec 2, ∃ g, hdec Config.roms { fieldsOf w with modeExt := x } = .ok g

/-- The Layer II check rejects exactly the listed pairs of bit rate and channel mode (R112). -/
def Obligations.LayerIICheckRejectsTheListedPairs : Prop :=
  (∀ (l : Layer) (bps : Nat) (m : ChannelMode),
    checkLayerII l bps m = .error .prohibitedBitrateChannelCombination ↔
      l = .layerII ∧ ((m ≠ .singleChannel ∧ bps ∈ [32000, 48000, 56000, 80000]) ∨
        (m = .singleChannel ∧ bps ∈ [224000, 256000, 320000, 384000]))) ∧
  (∀ (l : Layer) (m : ChannelMode), checkLayerII l 0 m = .ok ()) ∧
  (∀ (v : Version) (idx : BitVec 4) (bps : Nat), decodeBitrate Config.roms v .layerII idx = .ok bps →
    (bps ∈ [224000, 256000, 320000, 384000] ↔ v = .mpeg1 ∧ idx ∈ [11#4, 12#4, 13#4, 14#4]) ∧
    (bps ∈ [32000, 48000, 56000, 80000] ↔
      (v = .mpeg1 ∧ idx ∈ [1#4, 2#4, 3#4, 5#4]) ∨ (v ≠ .mpeg1 ∧ idx ∈ [4#4, 6#4, 7#4, 9#4]))) ∧
  (∀ (f : HeaderFields) (s : State), hdec Config.roms f = .error .prohibitedBitrateChannelCombination →
    exec (.hdec f) s = .next { s with regs := errorRegs 7#4 }) ∧
  hdec Config.roms (fieldsOf 0xFFFDD0C4#32) = .error .prohibitedBitrateChannelCombination ∧
  (∃ h, hdec Config.roms (fieldsOf 0xFFFDD004#32) = .ok h ∧ h.bitRateBps = 320000 ∧ h.channelMode = .stereo)

/-- The four version code points do what step 2 does (40_header_decoder.md section 2; that a code point by itself is a register-level sub-operation is the model's reading, log 9). -/
def Obligations.VersionRowsFollowStepTwo : Prop :=
  ∀ s : State,
  exec .versionMpeg25 s = .next { s with regs := { s.regs with hdrVersion := 0#2 } } ∧
  exec .versionMpeg2 s = .next { s with regs := { s.regs with hdrVersion := 2#2 } } ∧
  exec .versionMpeg1 s = .next { s with regs := { s.regs with hdrVersion := 3#2 } } ∧
  exec .versionReserved s = .next { s with regs := errorRegs 2#4 }

/-- The four layer code points do what step 3 does (40_header_decoder.md section 2; that a code point by itself is a register-level sub-operation is the model's reading, log 9). -/
def Obligations.LayerRowsFollowStepThree : Prop :=
  ∀ s : State,
  exec .layerIII s = .next { s with regs := { s.regs with hdrLayer := 1#2 } } ∧
  exec .layerII s = .next { s with regs := { s.regs with hdrLayer := 2#2 } } ∧
  exec .layerI s = .next { s with regs := { s.regs with hdrLayer := 3#2 } } ∧
  exec .layerReserved s = .next { s with regs := errorRegs 3#4 }

/-- The protection code points write has_crc with inverted polarity (40_header_decoder.md section 2; that a code point by itself is a register-level sub-operation is the model's reading, log 9). -/
def Obligations.ProtectionRowsAreInverted : Prop :=
  ∀ s : State,
  exec .protectionProtected s = .next { s with regs := { s.regs with hdrHasCrc := true } } ∧
  exec .protectionUnprotected s = .next { s with regs := { s.regs with hdrHasCrc := false } }

/-- The sixteen bit-rate index code points do what step 4 does (40_header_decoder.md section 2, 41_lookup_tables.md section 2; that a code point by itself is a register-level sub-operation is the model's reading, log 9). -/
def Obligations.BitrateRowsReadTheTable : Prop :=
  ∀ s : State,
  exec .bitrateIdx0 s = .next { s with regs := { s.regs with hdrBitRateBps := 0#19 } } ∧
  exec .bitrateIdx15 s = .next { s with regs := errorRegs 4#4 } ∧
  ∀ p ∈ [(1, Instr.bitrateIdx1), (2, Instr.bitrateIdx2), (3, Instr.bitrateIdx3), (4, Instr.bitrateIdx4), (5, Instr.bitrateIdx5)] ++
     [(6, Instr.bitrateIdx6), (7, Instr.bitrateIdx7), (8, Instr.bitrateIdx8), (9, Instr.bitrateIdx9), (10, Instr.bitrateIdx10)] ++
     [(11, Instr.bitrateIdx11), (12, Instr.bitrateIdx12), (13, Instr.bitrateIdx13), (14, Instr.bitrateIdx14)],
    ∀ (v : Version) (l : Layer), s.regs.hdrVersion = versionCode v → s.regs.hdrLayer = layerCode l →
      ∃ bps : BitVec 19, memRead Config.roms .bitrateRom (16 * (bitrateCol v l).val + p.1) = some bps.toNat ∧
        exec p.2 s = .next { s with regs := { s.regs with hdrBitRateBps := bps } }

/-- The four sample-rate index code points do what step 5 does (40_header_decoder.md section 2, 41_lookup_tables.md section 3; that a code point by itself is a register-level sub-operation is the model's reading, log 9). -/
def Obligations.SampleRateRowsReadTheTable : Prop :=
  ∀ s : State,
  exec .srateIdx3 s = .next { s with regs := errorRegs 5#4 } ∧
  ∀ p ∈ [(0, Instr.srateIdx0), (1, Instr.srateIdx1), (2, Instr.srateIdx2)], ∀ v : Version,
    s.regs.hdrVersion = versionCode v →
      ∃ hz : BitVec 16, memRead Config.roms .sampleRateRom (4 * v.vcol.val + p.1) = some hz.toNat ∧
        exec p.2 s = .next { s with regs := { s.regs with hdrSampleRateHz := hz } }

/-- A rate row over reserved codes names no ROM column and stops (20_memory.md section 4; the model's choice, log 9 and log 12). -/
def Obligations.RateRowsFaultWithoutColumn : Prop :=
  ∀ s : State,
  (s.regs.hdrVersion = 1#2 ∨ s.regs.hdrLayer = 0#2 → ∀ p ∈ [(1, Instr.bitrateIdx1), (2, Instr.bitrateIdx2), (3, Instr.bitrateIdx3), (4, Instr.bitrateIdx4), (5, Instr.bitrateIdx5)] ++
     [(6, Instr.bitrateIdx6), (7, Instr.bitrateIdx7), (8, Instr.bitrateIdx8), (9, Instr.bitrateIdx9), (10, Instr.bitrateIdx10)] ++
     [(11, Instr.bitrateIdx11), (12, Instr.bitrateIdx12), (13, Instr.bitrateIdx13), (14, Instr.bitrateIdx14)], exec p.2 s = .fault .unpopulatedRomAddress) ∧
  (s.regs.hdrVersion = 1#2 → ∀ i ∈ [Instr.srateIdx0, .srateIdx1, .srateIdx2],
    exec i s = .fault .unpopulatedRomAddress)

/-- The padding, private, copyright and original code points write their bit directly (40_header_decoder.md section 2, 30_encoding.md section 3; that a code point by itself is a register-level sub-operation is the model's reading, log 9). -/
def Obligations.FlagRowsWriteTheirBit : Prop :=
  ∀ s : State,
  exec .padding0 s = .next { s with regs := { s.regs with hdrPadded := false } } ∧
  exec .padding1 s = .next { s with regs := { s.regs with hdrPadded := true } } ∧
  exec .privateBit0 s = .next { s with regs := { s.regs with hdrPrivate := false } } ∧
  exec .privateBit1 s = .next { s with regs := { s.regs with hdrPrivate := true } } ∧
  exec .copyright0 s = .next { s with regs := { s.regs with hdrCopyrighted := false } } ∧
  exec .copyright1 s = .next { s with regs := { s.regs with hdrCopyrighted := true } } ∧
  exec .original0 s = .next { s with regs := { s.regs with hdrOriginal := false } } ∧
  exec .original1 s = .next { s with regs := { s.regs with hdrOriginal := true } }

/-- The four channel-mode code points write hdr_channel_mode (40_header_decoder.md section 2; that a code point by itself is a register-level sub-operation is the model's reading, log 9). -/
def Obligations.ModeRowsWriteChannelMode : Prop :=
  ∀ s : State,
  exec .modeStereo s = .next { s with regs := { s.regs with hdrChannelMode := 0#2 } } ∧
  exec .modeJointStereo s = .next { s with regs := { s.regs with hdrChannelMode := 1#2 } } ∧
  exec .modeDualChannel s = .next { s with regs := { s.regs with hdrChannelMode := 2#2 } } ∧
  exec .modeSingleChannel s = .next { s with regs := { s.regs with hdrChannelMode := 3#2 } }

/-- The fifteen mode-extension code points write the four union registers (40_header_decoder.md section 2, 30_encoding.md section 3; that a code point by itself is a register-level sub-operation is the model's reading, log 9). -/
def Obligations.ModeExtensionRowsWriteTheUnion : Prop :=
  ∀ s : State,
  exec .modeExtJsLayerI0 s =
    .next { s with regs := { s.regs with hdrJseTag := 1#2, hdrBandStart := 4#5, hdrIntensity := false, hdrMs := false } } ∧
  exec .modeExtJsLayerI1 s =
    .next { s with regs := { s.regs with hdrJseTag := 1#2, hdrBandStart := 8#5, hdrIntensity := false, hdrMs := false } } ∧
  exec .modeExtJsLayerI2 s =
    .next { s with regs := { s.regs with hdrJseTag := 1#2, hdrBandStart := 12#5, hdrIntensity := false, hdrMs := false } } ∧
  exec .modeExtJsLayerI3 s =
    .next { s with regs := { s.regs with hdrJseTag := 1#2, hdrBandStart := 16#5, hdrIntensity := false, hdrMs := false } } ∧
  exec .modeExtJsLayerII0 s =
    .next { s with regs := { s.regs with hdrJseTag := 1#2, hdrBandStart := 4#5, hdrIntensity := false, hdrMs := false } } ∧
  exec .modeExtJsLayerII1 s =
    .next { s with regs := { s.regs with hdrJseTag := 1#2, hdrBandStart := 8#5, hdrIntensity := false, hdrMs := false } } ∧
  exec .modeExtJsLayerII2 s =
    .next { s with regs := { s.regs with hdrJseTag := 1#2, hdrBandStart := 12#5, hdrIntensity := false, hdrMs := false } } ∧
  exec .modeExtJsLayerII3 s =
    .next { s with regs := { s.regs with hdrJseTag := 1#2, hdrBandStart := 16#5, hdrIntensity := false, hdrMs := false } } ∧
  exec .modeExtJsLayerIII0 s =
    .next { s with regs := { s.regs with hdrJseTag := 2#2, hdrBandStart := 0#5, hdrIntensity := false, hdrMs := false } } ∧
  exec .modeExtJsLayerIII1 s =
    .next { s with regs := { s.regs with hdrJseTag := 2#2, hdrBandStart := 0#5, hdrIntensity := true, hdrMs := false } } ∧
  exec .modeExtJsLayerIII2 s =
    .next { s with regs := { s.regs with hdrJseTag := 2#2, hdrBandStart := 0#5, hdrIntensity := false, hdrMs := true } } ∧
  exec .modeExtJsLayerIII3 s =
    .next { s with regs := { s.regs with hdrJseTag := 2#2, hdrBandStart := 0#5, hdrIntensity := true, hdrMs := true } } ∧
  exec .modeExtIgnoredStereo s =
    .next { s with regs := { s.regs with hdrJseTag := 0#2, hdrBandStart := 0#5, hdrIntensity := false, hdrMs := false } } ∧
  exec .modeExtIgnoredDualChannel s =
    .next { s with regs := { s.regs with hdrJseTag := 0#2, hdrBandStart := 0#5, hdrIntensity := false, hdrMs := false } } ∧
  exec .modeExtIgnoredSingleChannel s =
    .next { s with regs := { s.regs with hdrJseTag := 0#2, hdrBandStart := 0#5, hdrIntensity := false, hdrMs := false } }

/-- The four emphasis code points do what step 10 does (40_header_decoder.md section 2; that a code point by itself is a register-level sub-operation is the model's reading, log 9). -/
def Obligations.EmphasisRowsFollowStepTen : Prop :=
  ∀ s : State,
  exec .emphasisNone s = .next { s with regs := { s.regs with hdrEmphasis := 0#2 } } ∧
  exec .emphasisMs5015 s = .next { s with regs := { s.regs with hdrEmphasis := 1#2 } } ∧
  exec .emphasisCcitJ17 s = .next { s with regs := { s.regs with hdrEmphasis := 3#2 } } ∧
  exec .emphasisReserved s = .next { s with regs := errorRegs 6#4 }

/-- The forty prohibited Layer II patterns take error 7 (40_header_decoder.md section 2, 60_exceptions.md section 4; that a pattern by itself is step 11 on its own pair is the model's reading, log 9 and log 15). -/
def Obligations.LayerIIRowsRaiseProhibited : Prop :=
  ∀ (s : State), ∀ i ∈ [Instr.l2checkMpeg1Rate32kStereo, Instr.l2checkMpeg1Rate32kJointStereo] ++
     [Instr.l2checkMpeg1Rate32kDualChannel, Instr.l2checkMpeg1Rate48kStereo] ++
     [Instr.l2checkMpeg1Rate48kJointStereo, Instr.l2checkMpeg1Rate48kDualChannel] ++
     [Instr.l2checkMpeg1Rate56kStereo, Instr.l2checkMpeg1Rate56kJointStereo] ++
     [Instr.l2checkMpeg1Rate56kDualChannel, Instr.l2checkMpeg1Rate80kStereo] ++
     [Instr.l2checkMpeg1Rate80kJointStereo, Instr.l2checkMpeg1Rate80kDualChannel] ++
     [Instr.l2checkMpeg1Rate224kSingleChannel, Instr.l2checkMpeg1Rate256kSingleChannel] ++
     [Instr.l2checkMpeg1Rate320kSingleChannel, Instr.l2checkMpeg1Rate384kSingleChannel] ++
     [Instr.l2checkMpeg2Rate32kStereo, Instr.l2checkMpeg2Rate32kJointStereo] ++
     [Instr.l2checkMpeg2Rate32kDualChannel, Instr.l2checkMpeg2Rate48kStereo] ++
     [Instr.l2checkMpeg2Rate48kJointStereo, Instr.l2checkMpeg2Rate48kDualChannel] ++
     [Instr.l2checkMpeg2Rate56kStereo, Instr.l2checkMpeg2Rate56kJointStereo] ++
     [Instr.l2checkMpeg2Rate56kDualChannel, Instr.l2checkMpeg2Rate80kStereo] ++
     [Instr.l2checkMpeg2Rate80kJointStereo, Instr.l2checkMpeg2Rate80kDualChannel] ++
     [Instr.l2checkMpeg25Rate32kStereo, Instr.l2checkMpeg25Rate32kJointStereo] ++
     [Instr.l2checkMpeg25Rate32kDualChannel, Instr.l2checkMpeg25Rate48kStereo] ++
     [Instr.l2checkMpeg25Rate48kJointStereo, Instr.l2checkMpeg25Rate48kDualChannel] ++
     [Instr.l2checkMpeg25Rate56kStereo, Instr.l2checkMpeg25Rate56kJointStereo] ++
     [Instr.l2checkMpeg25Rate56kDualChannel, Instr.l2checkMpeg25Rate80kStereo] ++
     [Instr.l2checkMpeg25Rate80kJointStereo, Instr.l2checkMpeg25Rate80kDualChannel], exec i s = .next { s with regs := errorRegs 7#4 }

/-- Running the rows of a word one after another is HDEC (40_header_decoder.md section 3, 30_encoding.md section 5; rows as sub-operations are the model's reading, log 9). -/
def Obligations.RowsInOrderGiveHdec : Prop :=
  ∀ (f : HeaderFields) (s : State), f.sync = 0x7FF#11 →
    (∀ h, hdec Config.roms f = .ok h → ∃ t, runRows (rowsOf f) s = .next t ∧
      exec (.hdec f) s = .next { t with regs := { t.regs with outValid := true, outStatus := 0#4 } }) ∧
    (∀ e, hdec Config.roms f = .error e → runRows (rowsOf f) s = exec (.hdec f) s)

/-- The instruction a word decodes to has the effect HDEC has on that word (30_encoding.md section 5, 30_encoding.md section 6; which row a word decodes to is the model's choice, log 10). -/
def Obligations.DecodedWordRunsAsHdec : Prop :=
  ∀ (w : Word) (s : State), exec (decodeWord w) s = exec (.hdec (fieldsOf w)) s

/-- A step selects a row exactly on the words that match the row's mask and match in the opcode table (30_encoding.md section 5, 30_encoding.md section 2). -/
def Obligations.RowPatternsSelectRows : Prop :=
  ∀ (w : Word) (i : Instr) (st : DecodeStep), syncOk w = true → i.decodeStep = some st →
    (rowAt (fieldsOf w) st = some i ↔ w &&& i.pattern.1 = i.pattern.2)

/-- Decoding the encoding gives back every well-formed HDEC word and every error row, and every other row is on its own word's path (30_encoding.md section 1, 20_memory.md section 1; the encoder's fill of open bits and the choice of the row are log 10 and log 11). -/
def Obligations.DecodeEncodeRoundTrip : Prop :=
  (∀ (i : Instr) (rest : List Byte), i.wf = true → (i.raises.isSome = true ∨ ∃ f, i = .hdec f) →
    decode (bytesOfWord (encode i) ++ rest) = .ok (i, rest)) ∧
  (∀ i : Instr, i.decodeStep.isSome = true → i ∈ rowsOf (fieldsOf (encode i)))

/-- Every valid record is the decoding of a word (40_header_decoder.md section 3, 30_encoding.md section 3; a word for FLEN is the model's choice, log 11). -/
def Obligations.FlenWordDecodesToRecord : Prop :=
  ∀ h : FrameHeader, (Instr.flen h).wf = true → hdec Config.roms (fieldsOf (encode (.flen h))) = .ok h

/-- The thirteen fields are the whole word and nothing else (30_encoding.md section 1). -/
def Obligations.FieldsCoverTheWord : Prop :=
  (∀ w : Word, wordOf (fieldsOf w) = w) ∧ ∀ f : HeaderFields, fieldsOf (wordOf f) = f

/-- Four stream bytes form the word in big-endian order (R40). -/
def Obligations.HeaderWordIsBigEndian : Prop :=
  (∀ b0 b1 b2 b3 : Byte,
    (wordOfBytes b0 b1 b2 b3).toNat = b0.toNat * 2 ^ 24 + b1.toNat * 2 ^ 16 + b2.toNat * 2 ^ 8 + b3.toNat ∧
    bytesOfWord (wordOfBytes b0 b1 b2 b3) = [b0, b1, b2, b3] ∧
    decode [b0, b1, b2, b3] = .ok (decodeWord (wordOfBytes b0 b1 b2 b3), [])) ∧
  (∀ bytes : List Byte, bytes.length < 4 → decode bytes = .error .shortWindow) ∧
  wordOfBytes 0xFF 0xFB 0xB0 0x63 = 0xFFFBB063#32

/-- The three forms of the sync test agree (R61). -/
def Obligations.SyncTestForms : Prop :=
  (∀ w : Word, (syncOk w = true ↔ (fieldsOf w).sync = 0x7FF#11) ∧
    (syncOk w = true ↔ w.extractLsb' 20 12 &&& 0xFFE#12 = 0xFFE#12)) ∧
  (∀ b0 b1 b2 b3 : Byte, syncOk (wordOfBytes b0 b1 b2 b3) = true ↔ b0 = 0xFF#8 ∧ b1 &&& 0xE0#8 = 0xE0#8) ∧
  (∀ w : Word, syncOk (w ^^^ 0x00100000#32) = syncOk w)

/-- Words written out from the encoding decode to the instructions they stand for (95_test_vectors.md S1, 95_test_vectors.md V3; which row a word decodes to is the model's choice, log 10). -/
def Obligations.SampleWordsDecode : Prop :=
  decodeWord 0xFFFB90E3#32 = .hdec (fieldsOf 0xFFFB90E3#32) ∧ decodeWord 0#32 = .hdec (fieldsOf 0#32) ∧
  decodeWord 0xFFE80000#32 = .versionReserved ∧ decodeWord 0xFFE00000#32 = .layerReserved ∧
  decodeWord 0xFFFBF0E3#32 = .bitrateIdx15 ∧ decodeWord 0xFFFB9CE3#32 = .srateIdx3 ∧
  decodeWord 0xFFFB90E2#32 = .emphasisReserved ∧ decodeWord 0xFFFDD0C4#32 = .l2checkMpeg1Rate320kSingleChannel ∧
  decodeWord 0xFFF59400#32 = .l2checkMpeg2Rate80kStereo

/-- The ROM reads of a transaction are the listed ones, at populated addresses, and give the header's values (20_memory.md section 4, 41_lookup_tables.md section 5; that index 0 makes no bit-rate read is the model's choice, log 25). -/
def Obligations.RomReadsAreTheListedOnes : Prop :=
  ∀ (R : Roms) (f : HeaderFields),
    (∀ a ∈ hdecReads f, (memRead R a.space a.addr).isSome = true) ∧ (hdecReads f).length ≤ 2 ∧
    (∀ h, hdec R f = .ok h → f.bitrateIdx = 0#4 →
      (hdecReads f).map (fun a => (a.space, memRead R a.space a.addr)) = [(.sampleRateRom, some h.sampleRateHz)]) ∧
    (∀ h, hdec R f = .ok h → f.bitrateIdx ≠ 0#4 →
      (hdecReads f).map (fun a => (a.space, memRead R a.space a.addr)) =
        [(.bitrateRom, some h.bitRateBps), (.sampleRateRom, some h.sampleRateHz)]) ∧
    (∀ h : FrameHeader, (h.bitRateBps = 0 → flenReads h = []) ∧
      (h.bitRateBps ≠ 0 → (flenReads h).map (fun a => (a.space, memRead R a.space a.addr)) =
        [(.spfRom, some (samplesPer R h))]))

/-- A ROM read gives the addressed entry and has no value at an unpopulated address (20_memory.md section 4; the populated entries are R46; that no value stands elsewhere is R47, which the spec marks as derived, and log 20). -/
def Obligations.MemReadIsDefinedOnPopulatedEntries : Prop :=
  ∀ R : Roms,
    (∀ (col : Fin 5) (idx : Fin 15), memRead R .bitrateRom
      (bitrateAddr (BitVec.ofNat 3 col.val) (BitVec.ofNat 4 idx.val)).toNat = some (R.bitrate idx col).toNat) ∧
    (∀ (col : BitVec 3) (idx : BitVec 4), idx = 15#4 ∨ 5 ≤ col.toNat →
      memRead R .bitrateRom (bitrateAddr col idx).toNat = none) ∧
    (∀ v x : Fin 3, memRead R .sampleRateRom
      (sampleRateAddr (BitVec.ofNat 2 v.val) (BitVec.ofNat 2 x.val)).toNat = some (R.sampleRate x v).toNat) ∧
    (∀ v x : BitVec 2, v = 3#2 ∨ x = 3#2 → memRead R .sampleRateRom (sampleRateAddr v x).toNat = none) ∧
    (∀ l v : Fin 3, memRead R .spfRom
      (spfAddr (BitVec.ofNat 2 l.val) (BitVec.ofNat 2 v.val)).toNat = some (R.spf l v).toNat) ∧
    (∀ l v : BitVec 2, l = 3#2 ∨ v = 3#2 → memRead R .spfRom (spfAddr l v).toNat = none)

/-- The default ROM contents satisfy what the source supports about them (41_lookup_tables.md section 6; the ROM rows themselves are log 1 and log 2). -/
def Obligations.DefaultRomsAreAdmissible : Prop :=
  Config.roms.Admissible ∧
  ∀ (c : Fin 5) (i j : Fin 15), i ≤ j → (Config.roms.bitrate i c).toNat ≤ (Config.roms.bitrate j c).toNat

/-- The bit-rate column is the one the header bits select (R131). -/
def Obligations.BitrateColumnInHeaderBits : Prop :=
  (∀ (v : Version) (l : Layer), (bitrateCol v l).val =
    if versionCode v = 3#2 then 3 - (layerCode l).toNat else if layerCode l = 3#2 then 3 else 4) ∧
  bitrateCol .mpeg1 .layerI = 0 ∧ bitrateCol .mpeg1 .layerII = 1 ∧ bitrateCol .mpeg1 .layerIII = 2 ∧
  bitrateCol .mpeg2 .layerI = 3 ∧ bitrateCol .mpeg2 .layerII = 4 ∧ bitrateCol .mpeg2 .layerIII = 4 ∧
  bitrateCol .mpeg25 .layerI = 3 ∧ bitrateCol .mpeg25 .layerII = 4 ∧ bitrateCol .mpeg25 .layerIII = 4 ∧
  ∀ (col : Fin 5) (idx : BitVec 4), (bitrateAddr (BitVec.ofNat 3 col.val) idx).toNat = 16 * col.val + idx.toNat

/-- Every step keeps the invariant of registers, ports and host (10_state.md section 1, 10_state.md section 4, 45_host_stream_scanner.md section 1, 45_host_stream_scanner.md section 2; the scanner's pace, its source and the sample it holds are log 4, log 5 and log 17). -/
def Obligations.StepKeepsInvariant : Prop :=
  ∀ s t : State, s.Inv → step s = .next t → t.Inv

/-- No instruction changes anything but the result registers (60_exceptions.md section 4, 70_reset_and_hazards.md section 2). -/
def Obligations.ExecTouchesOnlyResultRegisters : Prop :=
  ∀ (i : Instr) (s t : State), exec i s = .next t → t = { s with regs := t.regs }

/-- An instruction stops only as a rate row without a column or FLEN on an invalid record (42_frame_length.md section 4, 20_memory.md section 4; the two stops are log 12 and log 13). -/
def Obligations.InstructionsCompleteOrStopAsNamed : Prop :=
  ∀ (i : Instr) (s : State), (∃ t, exec i s = .next t) ∨
    (∃ h, i = .flen h ∧ h.valid Config.roms = false ∧ exec i s = .refused .invalidRecord) ∨
    ((i.decodeStep = some .bitrate ∨ i.decodeStep = some .srate) ∧ i.raises = none ∧
      (s.regs.hdrVersion = 1#2 ∨ s.regs.hdrLayer = 0#2) ∧ exec i s = .fault .unpopulatedRomAddress)

/-- Seeking skips one byte where the window has no sync, else presents the window (45_host_stream_scanner.md section 2, 45_host_stream_scanner.md section 3, 45_host_stream_scanner.md section 4; one transition for each edge, the source as a list of deliveries and one decision of the caller taken at each turn in Seeking are the model's choice, log 4, log 5 and log 18). -/
def Obligations.SeekingSkipsOrAttempts : Prop :=
  ∀ (s : State) (w : Word), s.driver = .scanner → s.host.phase = .seeking → s.host.ask.pulling = true →
    windowAt s.host.received s.host.cursor = some w →
    (w &&& 0xFFE00000#32 ≠ 0xFFE00000#32 → ∃ t, step s = .next t ∧ t.host =
      { s.host.ask with cursor := s.host.cursor + 1, bytesConsumed := s.host.bytesConsumed + 1 }) ∧
    (w &&& 0xFFE00000#32 = 0xFFE00000#32 → ∃ t, step s = .next t ∧ t.host =
      { s.host.ask with phase := .validating s.host.cursor w none } ∧
      (s.inputs = [] → t.pins = { rst := false, inValid := true, inWord := w }))

/-- With fewer than 4 bytes left Seeking finishes at end-of-input and otherwise suspends without losing a byte (45_host_stream_scanner.md section 2, 45_host_stream_scanner.md section 3; one transition for each edge, the source as a list of deliveries and one decision of the caller taken at each turn in Seeking are the model's choice, log 4, log 5 and log 18). -/
def Obligations.ShortTailFinishesOrSuspends : Prop :=
  ∀ s : State, s.driver = .scanner → s.host.phase = .seeking → s.host.ask.pulling = true →
    s.host.received.length < s.host.cursor + 4 →
    (s.host.endOfInput = true → ∃ t, step s = .next t ∧ t.host = { s.host.ask with
      phase := .done, cursor := s.host.received.length,
      bytesConsumed := s.host.bytesConsumed + (s.host.received.length - s.host.cursor) }) ∧
    (s.host.endOfInput = false → ∃ t, step s = .next t ∧ t.host.phase = .seeking ∧
      t.host.cursor = s.host.cursor ∧ t.host.bytesConsumed = s.host.bytesConsumed ∧
      t.host.frames = s.host.frames ∧ s.host.received <+: t.host.received ∧
      t.host.received ++ t.host.reads.flatten = s.host.received ++ s.host.reads.flatten)

/-- Validating does with a window what HDEC and FLEN of that window say (45_host_stream_scanner.md section 2, 45_host_stream_scanner.md section 3, 45_host_stream_scanner.md section 4, 42_frame_length.md section 4; one transition for each edge, the source as a list of deliveries, the header and length held through a suspension and the cause Resyncing remembers are the model's own, log 4, log 5, log 17 and log 19). -/
def Obligations.ValidatingActsOnTheDecodedWindow : Prop :=
  ∀ (s : State) (attempt : Nat) (w : Word), s.Inv → s.driver = .scanner →
    s.host.phase = .validating attempt w none →
    (∀ e, hdec Config.roms (fieldsOf w) = .error e →
      ∃ t, step s = .next t ∧ t.host = { s.host with phase := .resyncing attempt (.header e) }) ∧
    (∀ h, hdec Config.roms (fieldsOf w) = .ok h → h.bitRateBps = 0 →
      ∃ t, step s = .next t ∧ t.host = { s.host with phase := .resyncing attempt (.length .undefinedFrameLength) }) ∧
    (∀ h n, hdec Config.roms (fieldsOf w) = .ok h → flen Config.roms h = .ok n →
      (attempt + n ≤ s.host.received.length → ∃ t, step s = .next t ∧ t.host =
        { s.host with
          phase := .seeking
          cursor := attempt + n
          bytesConsumed := s.host.bytesConsumed + n
          frames := s.host.frames ++ [⟨attempt, h, attempt + 4 + (if h.hasCrc then 2 else 0), attempt + n⟩] }) ∧
      (s.host.received.length < attempt + n → s.host.endOfInput = true →
        ∃ t, step s = .next t ∧ t.host = { s.host with phase := .resyncing attempt .truncatedPayload }) ∧
      (s.host.received.length < attempt + n → s.host.endOfInput = false →
        ∃ t, step s = .next t ∧ t.host.phase = .validating attempt w (some ⟨h, n⟩) ∧
          t.host.cursor = s.host.cursor ∧ t.host.bytesConsumed = s.host.bytesConsumed ∧
          t.host.frames = s.host.frames ∧ s.host.received <+: t.host.received ∧
          t.host.received ++ t.host.reads.flatten = s.host.received ++ s.host.reads.flatten))

/-- Resyncing moves one byte on from the attempt and produces no frame (45_host_stream_scanner.md section 2; one transition for each edge and the cause Resyncing remembers are the model's choice, log 4 and log 19). -/
def Obligations.ResyncingAdvancesOneByte : Prop :=
  ∀ (s : State) (attempt : Nat) (cause : ErrorKind), s.driver = .scanner →
    s.host.phase = .resyncing attempt cause →
    ∃ t, step s = .next t ∧ t.host = { s.host with
      phase := .seeking, cursor := attempt + 1, bytesConsumed := s.host.bytesConsumed + 1 }

/-- A caller that stops pulling leaves the scanner as it is at a Seeking or Done boundary (45_host_stream_scanner.md section 3; one transition for each edge and the list of decisions are the model's choice, log 4 and log 18). -/
def Obligations.CancelledScannerHoldsAtBoundary : Prop :=
  (∀ s : State, (s.host.phase = .seeking ∧ s.host.pulls = [] ∧ s.host.pulling = false) ∨ s.host.phase = .done →
    ∃ t, step s = .next t ∧ t.host = s.host) ∧
  (∀ (s : State) (rest : List Bool), s.driver = .scanner → s.host.phase = .seeking →
    (s.host.pulls = false :: rest →
      ∃ t, step s = .next t ∧ t.host = { s.host with pulling := false, pulls := rest }) ∧
    (s.host.pulls = true :: rest →
      ∃ t, step s = .next t ∧ t.host = ({ s.host with pulling := true, pulls := rest } : Scanner).seek))

/-- However the source splits a stream, the scanner reaches Done with the frames of the whole stream (45_host_stream_scanner.md section 2, 45_host_stream_scanner.md section 3; one transition for each edge, the source as a list of deliveries and a caller that pulls throughout are the model's choice, log 4, log 5 and log 18). -/
def Obligations.ScannerParsesWholeStream : Prop :=
  ∀ (s : State) (reads : List (List Byte)), ParseStart s reads →
    ParsesTo s (framesOf reads.flatten) reads.flatten.length

/-- A stream of N well-formed frames is recovered as exactly those frames (R185). -/
def Obligations.WellFormedFramesRoundTrip : Prop :=
  ∀ (s : State) (fs : List FrameBytes) (reads : List (List Byte)), ParseStart s reads →
    reads.flatten = fs.flatMap FrameBytes.bytes →
    ParsesTo s (framesAt 0 fs) (fs.map (fun f => f.sample.length)).sum ∧
      (framesAt 0 fs).length = fs.length ∧ (framesAt 0 fs).map (fun g => g.header) = fs.map (fun f => f.sample.header)

/-- Garbage between two frames is skipped when no window in it decodes with a length that fits (45_host_stream_scanner.md section 5; the condition is the spec's own, marked as derived from its R174 and R175, at R186; the start of a parse is log 4, log 5 and log 18). -/
def Obligations.GarbageBetweenFramesIsSkipped : Prop :=
  (∀ (s : State) (f g : FrameBytes) (garbage : List Byte) (reads : List (List Byte)), ParseStart s reads →
    reads.flatten = f.bytes ++ garbage ++ g.bytes →
    (∀ p w x, f.sample.length ≤ p → p < f.sample.length + garbage.length →
      windowAt reads.flatten p = some w → sampleOf w = some x → reads.flatten.length < p + x.length) →
    ∃ k t, runSteps k s = .next t ∧ t.host.phase = .done ∧
      t.host.frames = [frameOf 0 f.sample, frameOf (f.sample.length + garbage.length) g.sample] ∧
      t.host.bytesConsumed = reads.flatten.length ∧ t.host.skippedBytes = garbage.length) ∧
  (∃ (f g : FrameBytes) (garbage : List Byte),
    frameOf (f.sample.length + garbage.length) g.sample ∉ framesOf (f.bytes ++ garbage ++ g.bytes))

/-- After a suspension Validating appends the frame, reports the truncation, or waits on without losing a byte (45_host_stream_scanner.md section 2, 45_host_stream_scanner.md section 3; one transition for each edge, the source as a list of deliveries, the header and length held through a suspension and the cause Resyncing remembers are the model's own, log 4, log 5, log 17 and log 19). -/
def Obligations.ResumedValidatingAppendsFailsOrWaits : Prop :=
  ∀ (s : State) (attempt : Nat) (w : Word) (x : Sample), s.driver = .scanner →
    s.host.phase = .validating attempt w (some x) →
    (attempt + x.length ≤ s.host.received.length → ∃ t, step s = .next t ∧ t.host =
      { s.host with
        phase := .seeking
        cursor := attempt + x.length
        bytesConsumed := s.host.bytesConsumed + x.length
        frames := s.host.frames ++
          [⟨attempt, x.header, attempt + 4 + (if x.header.hasCrc then 2 else 0), attempt + x.length⟩] }) ∧
    (s.host.received.length < attempt + x.length → s.host.endOfInput = true →
      ∃ t, step s = .next t ∧ t.host = { s.host with phase := .resyncing attempt .truncatedPayload }) ∧
    (s.host.received.length < attempt + x.length → s.host.endOfInput = false →
      ∃ t, step s = .next t ∧ t.host.phase = .validating attempt w (some x) ∧
        t.host.cursor = s.host.cursor ∧ t.host.bytesConsumed = s.host.bytesConsumed ∧
        t.host.frames = s.host.frames ∧ s.host.received <+: t.host.received ∧
        t.host.received ++ t.host.reads.flatten = s.host.received ++ s.host.reads.flatten ∧
        (s.inputs = [] → t.pins.inValid = false ∧ t.pins.rst = false))

/-- A step takes the next queued port values, else what the scanner drives, and only a scanner that drove moves (70_reset_and_hazards.md section 1, 45_host_stream_scanner.md section 4; who drives when is the model's choice, log 4). -/
def Obligations.PortsTakeQueuedInputsFirst : Prop :=
  ∀ s : State,
    (∀ (p : Pins) (rest : List Pins), s.inputs = p :: rest →
      ∃ t, step s = .next t ∧ t.pins = p ∧ t.inputs = rest ∧ t.driver = .outside) ∧
    (s.inputs = [] → ∃ t, step s = .next t ∧ t.inputs = [] ∧ t.driver = .scanner ∧
      (∀ attempt w, t.host.phase = .validating attempt w none →
        t.pins = { rst := false, inValid := true, inWord := w }) ∧
      ((∀ attempt w, t.host.phase ≠ .validating attempt w none) → t.pins.rst = false ∧ t.pins.inValid = false)) ∧
    (s.driver = .outside → ∃ t, step s = .next t ∧ t.host = s.host) ∧
    (s.driver = .scanner → ∃ t, step s = .next t ∧ t.host = s.host.turn t.regs)

/-- A caller that stops and resumes at any Seeking boundaries never sees a partial frame and does not disturb the parse (45_host_stream_scanner.md section 3; one transition for each edge, the source as a list of deliveries and the list of decisions are the model's choice, log 4, log 5 and log 18). -/
def Obligations.CallerMayStopAtAnyBoundary : Prop :=
  ∀ (s : State) (reads : List (List Byte)) (ends pulling : Bool) (decisions : List Bool),
    s.pins = Pins.idle → s.driver = .scanner → s.inputs = [] →
    s.host = { Scanner.start reads ends with pulling := pulling, pulls := decisions } →
    (∀ k t, runSteps k s = .next t → t.host.frames <+: framesOf reads.flatten ∧
      t.host.received ++ t.host.reads.flatten = reads.flatten ∧ t.host.bytesConsumed = t.host.cursor) ∧
    (ends = true → decisions.getLastD pulling = true →
      ParsesTo s (framesOf reads.flatten) reads.flatten.length)
end

