-- ==== Sys2Proof/Laws/Operands.lean ====
section
/-! SUPPORT. What each decode step, HDEC and FLEN can answer, said once; the codes read back; the sizes of the default ROM entries. -/

namespace Sys2Proof

@[simp] theorem decodeVersion_code (v : Version) : decodeVersion v.code = .ok v := by
  cases v <;> rfl

@[simp] theorem decodeLayer_code (l : Layer) : decodeLayer l.code = .ok l := by
  cases l <;> rfl

@[simp] theorem decodeMode_code (m : ChannelMode) : decodeMode m.code = m := by
  cases m <;> rfl

@[simp] theorem decodeEmphasis_code (e : Emphasis) : decodeEmphasis e.code = .ok e := by
  cases e <;> rfl

theorem decodeVersion_ok {c : BitVec 2} {v : Version} (h : decodeVersion c = .ok v) : v.code = c := by
  revert c; cases v <;> decide

theorem decodeLayer_ok {c : BitVec 2} {l : Layer} (h : decodeLayer c = .ok l) : l.code = c := by
  revert c; cases l <;> decide

theorem decodeEmphasis_ok {c : BitVec 2} {e : Emphasis} (h : decodeEmphasis c = .ok e) : e.code = c := by
  revert c; cases e <;> decide

@[simp] theorem decodeMode_code' (c : BitVec 2) : (decodeMode c).code = c := by
  revert c; decide

theorem decodeVersion_error {c : BitVec 2} {e : HeaderError} :
    decodeVersion c = .error e ↔ c = 0b01#2 ∧ e = .reservedVersion := by
  revert c; cases e <;> decide

theorem decodeLayer_error {c : BitVec 2} {e : HeaderError} :
    decodeLayer c = .error e ↔ c = 0b00#2 ∧ e = .reservedLayer := by
  revert c; cases e <;> decide

theorem decodeEmphasis_error {c : BitVec 2} {e : HeaderError} :
    decodeEmphasis c = .error e ↔ c = 0b10#2 ∧ e = .reservedEmphasis := by
  revert c; cases e <;> decide

theorem checkSync_ok {b : BitVec 11} : checkSync b = .ok () ↔ b = 0x7FF#11 := by
  unfold checkSync; split <;> simp_all

theorem checkSync_error {b : BitVec 11} {e : HeaderError} :
    checkSync b = .error e ↔ b ≠ 0x7FF#11 ∧ e = .syncWordMissing := by
  unfold checkSync; split <;> simp_all [eq_comm]

theorem bitrateIdx_lt {idx : BitVec 4} (h : idx ≠ 0xF#4) : idx.toNat < 15 := by
  revert idx; decide

theorem srateIdx_lt {sidx : BitVec 2} (h : sidx ≠ 3#2) : sidx.toNat < 3 := by
  revert sidx; decide

theorem decodeBitrate_zero (R : Roms) (v : Version) (l : Layer) : decodeBitrate R v l 0#4 = .ok 0 := rfl

theorem decodeBitrate_row (R : Roms) (v : Version) (l : Layer) {idx : BitVec 4} (h0 : idx ≠ 0#4)
    (h : idx.toNat < 15) :
    decodeBitrate R v l idx = .ok (R.bitrate ⟨idx.toNat, h⟩ (bitrateCol v l)).toNat := by
  simp [decodeBitrate, h, h0]

theorem decodeBitrate_error {R : Roms} {v : Version} {l : Layer} {idx : BitVec 4} {e : HeaderError} :
    decodeBitrate R v l idx = .error e ↔ idx = 0xF#4 ∧ e = .invalidBitrateIndex := by
  unfold decodeBitrate
  by_cases h : idx.toNat < 15
  · have hne : idx ≠ 0xF#4 := by rintro rfl; simp at h
    simp [h, hne]
    split <;> simp
  · have he : idx = 0xF#4 := by
      by_contra hne; exact h (bitrateIdx_lt hne)
    simp [he, eq_comm]

theorem decodeSampleRate_row (R : Roms) (v : Version) {sidx : BitVec 2} (h : sidx.toNat < 3) :
    decodeSampleRate R v sidx = .ok (R.sampleRate ⟨sidx.toNat, h⟩ v.vcol).toNat := by
  simp [decodeSampleRate, h]

theorem decodeSampleRate_error {R : Roms} {v : Version} {sidx : BitVec 2} {e : HeaderError} :
    decodeSampleRate R v sidx = .error e ↔ sidx = 3#2 ∧ e = .reservedSampleRate := by
  unfold decodeSampleRate
  by_cases h : sidx.toNat < 3
  · have hne : sidx ≠ 3#2 := by rintro rfl; simp at h
    simp [h, hne]
  · have he : sidx = 3#2 := by
      by_contra hne; exact h (srateIdx_lt hne)
    simp [he, eq_comm]

theorem checkLayerII_ok {l : Layer} {bps : Nat} {m : ChannelMode} :
    checkLayerII l bps m = .ok () ↔ ¬ (l = .layerII ∧ prohibitedPair bps m = true) := by
  unfold checkLayerII; split <;> simp_all

theorem checkLayerII_error {l : Layer} {bps : Nat} {m : ChannelMode} {e : HeaderError} :
    checkLayerII l bps m = .error e ↔
      l = .layerII ∧ prohibitedPair bps m = true ∧ e = .prohibitedBitrateChannelCombination := by
  unfold checkLayerII
  split
  · rename_i h
    simp only [Except.error.injEq]
    exact ⟨fun he => ⟨h.1, h.2, he.symm⟩, fun he => he.2.2.symm⟩
  · rename_i h
    simp only [reduceCtorEq, false_iff]
    exact fun he => h ⟨he.1, he.2.1⟩

/-- Everything an accepting HDEC says: every check passed and every field of the record (40_header_decoder R114). -/
structure HdecOk (R : Roms) (f : HeaderFields) (h : FrameHeader) : Prop where
  sync : f.sync = 0x7FF#11
  version : decodeVersion f.version = .ok h.version
  layer : decodeLayer f.layer = .ok h.layer
  hasCrc : h.hasCrc = decodeProtection f.protection
  bitRate : decodeBitrate R h.version h.layer f.bitrateIdx = .ok h.bitRateBps
  sampleRate : decodeSampleRate R h.version f.srateIdx = .ok h.sampleRateHz
  padded : h.padded = decodeFlag f.padding
  privateBit : h.privateBit = decodeFlag f.privateBit
  mode : h.channelMode = decodeMode f.mode
  jse : h.jointStereoExt = decodeModeExt h.channelMode h.layer f.modeExt
  copyrighted : h.copyrighted = decodeFlag f.copyright
  original : h.original = decodeFlag f.original
  emphasis : decodeEmphasis f.emphasis = .ok h.emphasis
  layerII : checkLayerII h.layer h.bitRateBps h.channelMode = .ok ()

theorem hdec_ok_iff {R : Roms} {f : HeaderFields} {h : FrameHeader} : hdec R f = .ok h ↔ HdecOk R f h := by
  constructor
  · intro hd
    simp only [hdec, bind, Except.bind, pure, Except.pure] at hd
    split at hd
    · simp at hd
    rename_i h1
    split at hd
    · simp at hd
    rename_i v hv
    split at hd
    · simp at hd
    rename_i l hl
    split at hd
    · simp at hd
    rename_i b hb
    split at hd
    · simp at hd
    rename_i sr hsr
    split at hd
    · simp at hd
    rename_i em hem
    split at hd
    · simp at hd
    rename_i h2
    injection hd with hd
    subst hd
    exact ⟨checkSync_ok.1 h1, hv, hl, rfl, hb, hsr, rfl, rfl, rfl, rfl, rfl, rfl, hem, h2⟩
  · rintro ⟨h1, hv, hl, h3, hb, hsr, h4, h5, h6, h7, h8, h9, hem, h10⟩
    rcases h with ⟨v, l, c, b, sr, p, q, m, j, cp, og, em⟩
    simp only at *
    subst h3 h4 h5 h6 h7 h8 h9
    simp only [hdec, bind, Except.bind, pure, Except.pure, checkSync_ok.2 h1, hv, hl, hb, hsr, hem, h10]

/-- HDEC answers an error exactly when a step raises it and no earlier step raised any (R114, R211). -/
theorem hdec_cases (R : Roms) (f : HeaderFields) :
    (f.sync ≠ 0x7FF#11 ∧ hdec R f = .error .syncWordMissing) ∨
    (f.sync = 0x7FF#11 ∧ f.version = 0b01#2 ∧ hdec R f = .error .reservedVersion) ∨
    (∃ v, f.sync = 0x7FF#11 ∧ decodeVersion f.version = .ok v ∧ f.layer = 0b00#2 ∧
      hdec R f = .error .reservedLayer) ∨
    (∃ v l, f.sync = 0x7FF#11 ∧ decodeVersion f.version = .ok v ∧ decodeLayer f.layer = .ok l ∧
      f.bitrateIdx = 0xF#4 ∧ hdec R f = .error .invalidBitrateIndex) ∨
    (∃ v l b, f.sync = 0x7FF#11 ∧ decodeVersion f.version = .ok v ∧ decodeLayer f.layer = .ok l ∧
      decodeBitrate R v l f.bitrateIdx = .ok b ∧ f.srateIdx = 3#2 ∧ hdec R f = .error .reservedSampleRate) ∨
    (∃ v l b sr, f.sync = 0x7FF#11 ∧ decodeVersion f.version = .ok v ∧ decodeLayer f.layer = .ok l ∧
      decodeBitrate R v l f.bitrateIdx = .ok b ∧ decodeSampleRate R v f.srateIdx = .ok sr ∧
      f.emphasis = 0b10#2 ∧ hdec R f = .error .reservedEmphasis) ∨
    (∃ v b sr em, f.sync = 0x7FF#11 ∧ decodeVersion f.version = .ok v ∧ decodeLayer f.layer = .ok .layerII ∧
      decodeBitrate R v .layerII f.bitrateIdx = .ok b ∧ decodeSampleRate R v f.srateIdx = .ok sr ∧
      decodeEmphasis f.emphasis = .ok em ∧ prohibitedPair b (decodeMode f.mode) = true ∧
      hdec R f = .error .prohibitedBitrateChannelCombination) ∨
    (∃ h, hdec R f = .ok h) := by
  rcases hs : checkSync f.sync with e | u
  · obtain ⟨h1, rfl⟩ := checkSync_error.1 hs
    exact .inl ⟨h1, by simp [hdec, hs, bind, Except.bind]⟩
  have hs' := checkSync_ok.1 hs
  rcases hv : decodeVersion f.version with e | v
  · obtain ⟨h1, rfl⟩ := decodeVersion_error.1 hv
    exact .inr (.inl ⟨hs', h1, by simp [hdec, hs, hv, bind, Except.bind]⟩)
  rcases hl : decodeLayer f.layer with e | l
  · obtain ⟨h1, rfl⟩ := decodeLayer_error.1 hl
    exact .inr (.inr (.inl ⟨v, hs', rfl, h1, by simp [hdec, hs, hv, hl, bind, Except.bind]⟩))
  rcases hb : decodeBitrate R v l f.bitrateIdx with e | b
  · obtain ⟨h1, rfl⟩ := decodeBitrate_error.1 hb
    exact .inr (.inr (.inr (.inl ⟨v, l, hs', rfl, rfl, h1,
      by simp [hdec, hs, hv, hl, hb, bind, Except.bind]⟩)))
  rcases hsr : decodeSampleRate R v f.srateIdx with e | sr
  · obtain ⟨h1, rfl⟩ := decodeSampleRate_error.1 hsr
    exact .inr (.inr (.inr (.inr (.inl ⟨v, l, b, hs', rfl, rfl, hb, h1,
      by simp [hdec, hs, hv, hl, hb, hsr, bind, Except.bind]⟩))))
  rcases hem : decodeEmphasis f.emphasis with e | em
  · obtain ⟨h1, rfl⟩ := decodeEmphasis_error.1 hem
    exact .inr (.inr (.inr (.inr (.inr (.inl ⟨v, l, b, sr, hs', rfl, rfl, hb, hsr, h1,
      by simp [hdec, hs, hv, hl, hb, hsr, hem, bind, Except.bind]⟩)))))
  rcases hc : checkLayerII l b (decodeMode f.mode) with e | u2
  · obtain ⟨rfl, h2, rfl⟩ := checkLayerII_error.1 hc
    exact .inr (.inr (.inr (.inr (.inr (.inr (.inl ⟨v, b, sr, em, hs', rfl, rfl, hb, hsr, rfl, h2,
      by simp [hdec, hs, hv, hl, hb, hsr, hem, hc, bind, Except.bind]⟩))))))
  · exact .inr (.inr (.inr (.inr (.inr (.inr (.inr ⟨⟨v, l, decodeProtection f.protection, b, sr,
      decodeFlag f.padding, decodeFlag f.privateBit, decodeMode f.mode,
      decodeModeExt (decodeMode f.mode) l f.modeExt, decodeFlag f.copyright, decodeFlag f.original, em⟩,
      hdec_ok_iff.2 ⟨hs', hv, hl, rfl, hb, hsr, rfl, rfl, rfl, rfl, rfl, rfl, hem, hc⟩⟩))))))

/-- The default bit rates fit `BR_W` = 19 bits with nothing cut off: entries are at most 448000 (R132). -/
theorem bitrate_le (i : Fin 15) (c : Fin 5) : (Config.roms.bitrate i c).toNat ≤ 448000 := by
  revert i c; decide

/-- The default sample rates lie between 8000 and 48000 (R134, R157). -/
theorem sampleRate_bounds (i v : Fin 3) :
    8000 ≤ (Config.roms.sampleRate i v).toNat ∧ (Config.roms.sampleRate i v).toNat ≤ 48000 := by
  revert i v; decide

theorem validBitRate_le {v : Version} {l : Layer} {b : Nat} (h : validBitRate Config.roms v l b = true) :
    b ≤ 448000 := by
  simp only [validBitRate, Bool.or_eq_true, beq_iff_eq, List.any_eq_true] at h
  rcases h with rfl | ⟨i, -, rfl⟩
  · omega
  · exact bitrate_le _ _

theorem validSampleRate_bounds {v : Version} {z : Nat} (h : validSampleRate Config.roms v z = true) :
    8000 ≤ z ∧ z ≤ 48000 := by
  simp only [validSampleRate, Bool.and_eq_true, beq_iff_eq, List.any_eq_true] at h
  obtain ⟨-, i, -, rfl⟩ := h
  exact sampleRate_bounds _ _

/-- The four parts of a record's validity (R115). -/
theorem FrameHeader.valid_iff {R : Roms} {h : FrameHeader} : h.valid R = true ↔
    validBitRate R h.version h.layer h.bitRateBps = true ∧ validSampleRate R h.version h.sampleRateHz = true ∧
      validJse h.channelMode h.layer h.jointStereoExt = true ∧
      ¬ (h.layer = .layerII ∧ prohibitedPair h.bitRateBps h.channelMode = true) := by
  simp only [FrameHeader.valid, Bool.and_eq_true, Bool.not_eq_true', beq_eq_false_iff_ne, Bool.and_eq_false_iff]
  simp only [and_assoc, not_and_or, Bool.not_eq_true]

theorem flen_ok {R : Roms} {h : FrameHeader} {n : Nat} : flen R h = .ok n ↔
    h.bitRateBps ≠ 0 ∧ n = baseLength R h + padAdjust h + crcAdjust h := by
  unfold flen; split <;> simp_all [eq_comm]

theorem flen_error {R : Roms} {h : FrameHeader} {e : LengthError} :
    flen R h = .error e ↔ h.bitRateBps = 0 := by
  cases e; unfold flen; split <;> simp_all

end Sys2Proof
end

