-- ==== Sys2Proof/Laws/State.lean ====
section
/-! SUPPORT. One lemma per field per update of the state, true by rfl. -/

namespace Sys2Proof.Machine

@[simp] theorem setRegs_pins (s : State) (r : ResultRegs) :
    (s.setRegs r).pins = s.pins := rfl
@[simp] theorem setRegs_driver (s : State) (r : ResultRegs) :
    (s.setRegs r).driver = s.driver := rfl
@[simp] theorem setRegs_inputs (s : State) (r : ResultRegs) :
    (s.setRegs r).inputs = s.inputs := rfl
@[simp] theorem setRegs_host (s : State) (r : ResultRegs) :
    (s.setRegs r).host = s.host := rfl
@[simp] theorem setRegs_regs (s : State) (r : ResultRegs) :
    (s.setRegs r).regs = r := rfl
@[simp] theorem setRegs_setRegs (s : State) (r q : ResultRegs) :
    (s.setRegs r).setRegs q = s.setRegs q := rfl
@[simp] theorem setRegs_self (s : State) :
    s.setRegs s.regs = s := rfl

@[simp] theorem withHeader_outValid (r : ResultRegs) (h : FrameHeader) :
    (r.withHeader h).outValid = r.outValid := rfl
@[simp] theorem withHeader_outStatus (r : ResultRegs) (h : FrameHeader) :
    (r.withHeader h).outStatus = r.outStatus := rfl
@[simp] theorem withHeader_hdrVersion (r : ResultRegs) (h : FrameHeader) :
    (r.withHeader h).hdrVersion = h.version.code := rfl
@[simp] theorem withHeader_hdrLayer (r : ResultRegs) (h : FrameHeader) :
    (r.withHeader h).hdrLayer = h.layer.code := rfl
@[simp] theorem withHeader_hdrHasCrc (r : ResultRegs) (h : FrameHeader) :
    (r.withHeader h).hdrHasCrc = h.hasCrc := rfl
@[simp] theorem withHeader_hdrBitRateBps (r : ResultRegs) (h : FrameHeader) :
    (r.withHeader h).hdrBitRateBps = BitVec.ofNat Config.brW h.bitRateBps := rfl
@[simp] theorem withHeader_hdrSampleRateHz (r : ResultRegs) (h : FrameHeader) :
    (r.withHeader h).hdrSampleRateHz = BitVec.ofNat Config.srW h.sampleRateHz := rfl
@[simp] theorem withHeader_hdrPadded (r : ResultRegs) (h : FrameHeader) :
    (r.withHeader h).hdrPadded = h.padded := rfl
@[simp] theorem withHeader_hdrPrivate (r : ResultRegs) (h : FrameHeader) :
    (r.withHeader h).hdrPrivate = h.privateBit := rfl
@[simp] theorem withHeader_hdrChannelMode (r : ResultRegs) (h : FrameHeader) :
    (r.withHeader h).hdrChannelMode = h.channelMode.code := rfl
@[simp] theorem withHeader_hdrJseTag (r : ResultRegs) (h : FrameHeader) :
    (r.withHeader h).hdrJseTag = h.jointStereoExt.tag := rfl
@[simp] theorem withHeader_hdrBandStart (r : ResultRegs) (h : FrameHeader) :
    (r.withHeader h).hdrBandStart = h.jointStereoExt.band := rfl
@[simp] theorem withHeader_hdrIntensity (r : ResultRegs) (h : FrameHeader) :
    (r.withHeader h).hdrIntensity = h.jointStereoExt.intensity := rfl
@[simp] theorem withHeader_hdrMs (r : ResultRegs) (h : FrameHeader) :
    (r.withHeader h).hdrMs = h.jointStereoExt.ms := rfl
@[simp] theorem withHeader_hdrCopyrighted (r : ResultRegs) (h : FrameHeader) :
    (r.withHeader h).hdrCopyrighted = h.copyrighted := rfl
@[simp] theorem withHeader_hdrOriginal (r : ResultRegs) (h : FrameHeader) :
    (r.withHeader h).hdrOriginal = h.original := rfl
@[simp] theorem withHeader_hdrEmphasis (r : ResultRegs) (h : FrameHeader) :
    (r.withHeader h).hdrEmphasis = h.emphasis.code := rfl
@[simp] theorem withHeader_lenStatus (r : ResultRegs) (h : FrameHeader) :
    (r.withHeader h).lenStatus = r.lenStatus := rfl
@[simp] theorem withHeader_lenBytes (r : ResultRegs) (h : FrameHeader) :
    (r.withHeader h).lenBytes = r.lenBytes := rfl

@[simp] theorem withJse_outValid (r : ResultRegs) (j : JointStereoExt) :
    (r.withJse j).outValid = r.outValid := rfl
@[simp] theorem withJse_outStatus (r : ResultRegs) (j : JointStereoExt) :
    (r.withJse j).outStatus = r.outStatus := rfl
@[simp] theorem withJse_hdrVersion (r : ResultRegs) (j : JointStereoExt) :
    (r.withJse j).hdrVersion = r.hdrVersion := rfl
@[simp] theorem withJse_hdrLayer (r : ResultRegs) (j : JointStereoExt) :
    (r.withJse j).hdrLayer = r.hdrLayer := rfl
@[simp] theorem withJse_hdrHasCrc (r : ResultRegs) (j : JointStereoExt) :
    (r.withJse j).hdrHasCrc = r.hdrHasCrc := rfl
@[simp] theorem withJse_hdrBitRateBps (r : ResultRegs) (j : JointStereoExt) :
    (r.withJse j).hdrBitRateBps = r.hdrBitRateBps := rfl
@[simp] theorem withJse_hdrSampleRateHz (r : ResultRegs) (j : JointStereoExt) :
    (r.withJse j).hdrSampleRateHz = r.hdrSampleRateHz := rfl
@[simp] theorem withJse_hdrPadded (r : ResultRegs) (j : JointStereoExt) :
    (r.withJse j).hdrPadded = r.hdrPadded := rfl
@[simp] theorem withJse_hdrPrivate (r : ResultRegs) (j : JointStereoExt) :
    (r.withJse j).hdrPrivate = r.hdrPrivate := rfl
@[simp] theorem withJse_hdrChannelMode (r : ResultRegs) (j : JointStereoExt) :
    (r.withJse j).hdrChannelMode = r.hdrChannelMode := rfl
@[simp] theorem withJse_hdrJseTag (r : ResultRegs) (j : JointStereoExt) :
    (r.withJse j).hdrJseTag = j.tag := rfl
@[simp] theorem withJse_hdrBandStart (r : ResultRegs) (j : JointStereoExt) :
    (r.withJse j).hdrBandStart = j.band := rfl
@[simp] theorem withJse_hdrIntensity (r : ResultRegs) (j : JointStereoExt) :
    (r.withJse j).hdrIntensity = j.intensity := rfl
@[simp] theorem withJse_hdrMs (r : ResultRegs) (j : JointStereoExt) :
    (r.withJse j).hdrMs = j.ms := rfl
@[simp] theorem withJse_hdrCopyrighted (r : ResultRegs) (j : JointStereoExt) :
    (r.withJse j).hdrCopyrighted = r.hdrCopyrighted := rfl
@[simp] theorem withJse_hdrOriginal (r : ResultRegs) (j : JointStereoExt) :
    (r.withJse j).hdrOriginal = r.hdrOriginal := rfl
@[simp] theorem withJse_hdrEmphasis (r : ResultRegs) (j : JointStereoExt) :
    (r.withJse j).hdrEmphasis = r.hdrEmphasis := rfl
@[simp] theorem withJse_lenStatus (r : ResultRegs) (j : JointStereoExt) :
    (r.withJse j).lenStatus = r.lenStatus := rfl
@[simp] theorem withJse_lenBytes (r : ResultRegs) (j : JointStereoExt) :
    (r.withJse j).lenBytes = r.lenBytes := rfl

@[simp] theorem accepted_outValid (r : ResultRegs) :
    r.accepted.outValid = true := rfl
@[simp] theorem accepted_outStatus (r : ResultRegs) :
    r.accepted.outStatus = 0#4 := rfl
@[simp] theorem accepted_hdrVersion (r : ResultRegs) :
    r.accepted.hdrVersion = r.hdrVersion := rfl
@[simp] theorem accepted_hdrLayer (r : ResultRegs) :
    r.accepted.hdrLayer = r.hdrLayer := rfl
@[simp] theorem accepted_hdrHasCrc (r : ResultRegs) :
    r.accepted.hdrHasCrc = r.hdrHasCrc := rfl
@[simp] theorem accepted_hdrBitRateBps (r : ResultRegs) :
    r.accepted.hdrBitRateBps = r.hdrBitRateBps := rfl
@[simp] theorem accepted_hdrSampleRateHz (r : ResultRegs) :
    r.accepted.hdrSampleRateHz = r.hdrSampleRateHz := rfl
@[simp] theorem accepted_hdrPadded (r : ResultRegs) :
    r.accepted.hdrPadded = r.hdrPadded := rfl
@[simp] theorem accepted_hdrPrivate (r : ResultRegs) :
    r.accepted.hdrPrivate = r.hdrPrivate := rfl
@[simp] theorem accepted_hdrChannelMode (r : ResultRegs) :
    r.accepted.hdrChannelMode = r.hdrChannelMode := rfl
@[simp] theorem accepted_hdrJseTag (r : ResultRegs) :
    r.accepted.hdrJseTag = r.hdrJseTag := rfl
@[simp] theorem accepted_hdrBandStart (r : ResultRegs) :
    r.accepted.hdrBandStart = r.hdrBandStart := rfl
@[simp] theorem accepted_hdrIntensity (r : ResultRegs) :
    r.accepted.hdrIntensity = r.hdrIntensity := rfl
@[simp] theorem accepted_hdrMs (r : ResultRegs) :
    r.accepted.hdrMs = r.hdrMs := rfl
@[simp] theorem accepted_hdrCopyrighted (r : ResultRegs) :
    r.accepted.hdrCopyrighted = r.hdrCopyrighted := rfl
@[simp] theorem accepted_hdrOriginal (r : ResultRegs) :
    r.accepted.hdrOriginal = r.hdrOriginal := rfl
@[simp] theorem accepted_hdrEmphasis (r : ResultRegs) :
    r.accepted.hdrEmphasis = r.hdrEmphasis := rfl
@[simp] theorem accepted_lenStatus (r : ResultRegs) :
    r.accepted.lenStatus = r.lenStatus := rfl
@[simp] theorem accepted_lenBytes (r : ResultRegs) :
    r.accepted.lenBytes = r.lenBytes := rfl

@[simp] theorem withLength_outValid (r : ResultRegs) (l : Except LengthError Nat) :
    (r.withLength l).outValid = r.outValid := by
  rcases l with ⟨⟨⟩⟩ | _ <;> rfl
@[simp] theorem withLength_outStatus (r : ResultRegs) (l : Except LengthError Nat) :
    (r.withLength l).outStatus = r.outStatus := by
  rcases l with ⟨⟨⟩⟩ | _ <;> rfl
@[simp] theorem withLength_hdrVersion (r : ResultRegs) (l : Except LengthError Nat) :
    (r.withLength l).hdrVersion = r.hdrVersion := by
  rcases l with ⟨⟨⟩⟩ | _ <;> rfl
@[simp] theorem withLength_hdrLayer (r : ResultRegs) (l : Except LengthError Nat) :
    (r.withLength l).hdrLayer = r.hdrLayer := by
  rcases l with ⟨⟨⟩⟩ | _ <;> rfl
@[simp] theorem withLength_hdrHasCrc (r : ResultRegs) (l : Except LengthError Nat) :
    (r.withLength l).hdrHasCrc = r.hdrHasCrc := by
  rcases l with ⟨⟨⟩⟩ | _ <;> rfl
@[simp] theorem withLength_hdrBitRateBps (r : ResultRegs) (l : Except LengthError Nat) :
    (r.withLength l).hdrBitRateBps = r.hdrBitRateBps := by
  rcases l with ⟨⟨⟩⟩ | _ <;> rfl
@[simp] theorem withLength_hdrSampleRateHz (r : ResultRegs) (l : Except LengthError Nat) :
    (r.withLength l).hdrSampleRateHz = r.hdrSampleRateHz := by
  rcases l with ⟨⟨⟩⟩ | _ <;> rfl
@[simp] theorem withLength_hdrPadded (r : ResultRegs) (l : Except LengthError Nat) :
    (r.withLength l).hdrPadded = r.hdrPadded := by
  rcases l with ⟨⟨⟩⟩ | _ <;> rfl
@[simp] theorem withLength_hdrPrivate (r : ResultRegs) (l : Except LengthError Nat) :
    (r.withLength l).hdrPrivate = r.hdrPrivate := by
  rcases l with ⟨⟨⟩⟩ | _ <;> rfl
@[simp] theorem withLength_hdrChannelMode (r : ResultRegs) (l : Except LengthError Nat) :
    (r.withLength l).hdrChannelMode = r.hdrChannelMode := by
  rcases l with ⟨⟨⟩⟩ | _ <;> rfl
@[simp] theorem withLength_hdrJseTag (r : ResultRegs) (l : Except LengthError Nat) :
    (r.withLength l).hdrJseTag = r.hdrJseTag := by
  rcases l with ⟨⟨⟩⟩ | _ <;> rfl
@[simp] theorem withLength_hdrBandStart (r : ResultRegs) (l : Except LengthError Nat) :
    (r.withLength l).hdrBandStart = r.hdrBandStart := by
  rcases l with ⟨⟨⟩⟩ | _ <;> rfl
@[simp] theorem withLength_hdrIntensity (r : ResultRegs) (l : Except LengthError Nat) :
    (r.withLength l).hdrIntensity = r.hdrIntensity := by
  rcases l with ⟨⟨⟩⟩ | _ <;> rfl
@[simp] theorem withLength_hdrMs (r : ResultRegs) (l : Except LengthError Nat) :
    (r.withLength l).hdrMs = r.hdrMs := by
  rcases l with ⟨⟨⟩⟩ | _ <;> rfl
@[simp] theorem withLength_hdrCopyrighted (r : ResultRegs) (l : Except LengthError Nat) :
    (r.withLength l).hdrCopyrighted = r.hdrCopyrighted := by
  rcases l with ⟨⟨⟩⟩ | _ <;> rfl
@[simp] theorem withLength_hdrOriginal (r : ResultRegs) (l : Except LengthError Nat) :
    (r.withLength l).hdrOriginal = r.hdrOriginal := by
  rcases l with ⟨⟨⟩⟩ | _ <;> rfl
@[simp] theorem withLength_hdrEmphasis (r : ResultRegs) (l : Except LengthError Nat) :
    (r.withLength l).hdrEmphasis = r.hdrEmphasis := by
  rcases l with ⟨⟨⟩⟩ | _ <;> rfl
@[simp] theorem withLength_ok_lenStatus (r : ResultRegs) (n : Nat) :
    (r.withLength (.ok n)).lenStatus = 0#2 := rfl
@[simp] theorem withLength_ok_lenBytes (r : ResultRegs) (n : Nat) :
    (r.withLength (.ok n)).lenBytes = BitVec.ofNat Config.lenW n := rfl
@[simp] theorem withLength_undefined_lenStatus (r : ResultRegs) :
    (r.withLength (.error .undefinedFrameLength)).lenStatus = 1#2 := rfl
@[simp] theorem withLength_undefined_lenBytes (r : ResultRegs) :
    (r.withLength (.error .undefinedFrameLength)).lenBytes = 0#16 := rfl

@[simp] theorem ofError_outValid (e : HeaderError) :
    (ResultRegs.ofError e).outValid = true := rfl
@[simp] theorem ofError_outStatus (e : HeaderError) :
    (ResultRegs.ofError e).outStatus = e.code := rfl
@[simp] theorem ofError_hdrVersion (e : HeaderError) :
    (ResultRegs.ofError e).hdrVersion = 0 := rfl
@[simp] theorem ofError_hdrLayer (e : HeaderError) :
    (ResultRegs.ofError e).hdrLayer = 0 := rfl
@[simp] theorem ofError_hdrHasCrc (e : HeaderError) :
    (ResultRegs.ofError e).hdrHasCrc = false := rfl
@[simp] theorem ofError_hdrBitRateBps (e : HeaderError) :
    (ResultRegs.ofError e).hdrBitRateBps = 0 := rfl
@[simp] theorem ofError_hdrSampleRateHz (e : HeaderError) :
    (ResultRegs.ofError e).hdrSampleRateHz = 0 := rfl
@[simp] theorem ofError_hdrPadded (e : HeaderError) :
    (ResultRegs.ofError e).hdrPadded = false := rfl
@[simp] theorem ofError_hdrPrivate (e : HeaderError) :
    (ResultRegs.ofError e).hdrPrivate = false := rfl
@[simp] theorem ofError_hdrChannelMode (e : HeaderError) :
    (ResultRegs.ofError e).hdrChannelMode = 0 := rfl
@[simp] theorem ofError_hdrJseTag (e : HeaderError) :
    (ResultRegs.ofError e).hdrJseTag = 0 := rfl
@[simp] theorem ofError_hdrBandStart (e : HeaderError) :
    (ResultRegs.ofError e).hdrBandStart = 0 := rfl
@[simp] theorem ofError_hdrIntensity (e : HeaderError) :
    (ResultRegs.ofError e).hdrIntensity = false := rfl
@[simp] theorem ofError_hdrMs (e : HeaderError) :
    (ResultRegs.ofError e).hdrMs = false := rfl
@[simp] theorem ofError_hdrCopyrighted (e : HeaderError) :
    (ResultRegs.ofError e).hdrCopyrighted = false := rfl
@[simp] theorem ofError_hdrOriginal (e : HeaderError) :
    (ResultRegs.ofError e).hdrOriginal = false := rfl
@[simp] theorem ofError_hdrEmphasis (e : HeaderError) :
    (ResultRegs.ofError e).hdrEmphasis = 0 := rfl
@[simp] theorem ofError_lenStatus (e : HeaderError) :
    (ResultRegs.ofError e).lenStatus = 2#2 := rfl
@[simp] theorem ofError_lenBytes (e : HeaderError) :
    (ResultRegs.ofError e).lenBytes = 0 := rfl

namespace Scanner

@[simp] theorem skip_phase (h : Scanner) :
    (h.skip).phase = h.phase := rfl
@[simp] theorem skip_cursor (h : Scanner) :
    (h.skip).cursor = h.cursor + 1 := rfl
@[simp] theorem skip_bytesConsumed (h : Scanner) :
    (h.skip).bytesConsumed = h.bytesConsumed + 1 := rfl
@[simp] theorem skip_frames (h : Scanner) :
    (h.skip).frames = h.frames := rfl
@[simp] theorem skip_received (h : Scanner) :
    (h.skip).received = h.received := rfl
@[simp] theorem skip_endOfInput (h : Scanner) :
    (h.skip).endOfInput = h.endOfInput := rfl
@[simp] theorem skip_reads (h : Scanner) :
    (h.skip).reads = h.reads := rfl
@[simp] theorem skip_sourceEnds (h : Scanner) :
    (h.skip).sourceEnds = h.sourceEnds := rfl
@[simp] theorem skip_pulling (h : Scanner) :
    (h.skip).pulling = h.pulling := rfl
@[simp] theorem skip_pulls (h : Scanner) :
    (h.skip).pulls = h.pulls := rfl

@[simp] theorem finish_phase (h : Scanner) :
    (h.finish).phase = .done := rfl
@[simp] theorem finish_cursor (h : Scanner) :
    (h.finish).cursor = h.received.length := rfl
@[simp] theorem finish_bytesConsumed (h : Scanner) :
    (h.finish).bytesConsumed = h.bytesConsumed + (h.received.length - h.cursor) := rfl
@[simp] theorem finish_frames (h : Scanner) :
    (h.finish).frames = h.frames := rfl
@[simp] theorem finish_received (h : Scanner) :
    (h.finish).received = h.received := rfl
@[simp] theorem finish_endOfInput (h : Scanner) :
    (h.finish).endOfInput = h.endOfInput := rfl
@[simp] theorem finish_reads (h : Scanner) :
    (h.finish).reads = h.reads := rfl
@[simp] theorem finish_sourceEnds (h : Scanner) :
    (h.finish).sourceEnds = h.sourceEnds := rfl
@[simp] theorem finish_pulling (h : Scanner) :
    (h.finish).pulling = h.pulling := rfl
@[simp] theorem finish_pulls (h : Scanner) :
    (h.finish).pulls = h.pulls := rfl

@[simp] theorem fail_phase (a : Nat) (c : ErrorKind) (h : Scanner) :
    (h.fail a c).phase = .resyncing a c := rfl
@[simp] theorem fail_cursor (a : Nat) (c : ErrorKind) (h : Scanner) :
    (h.fail a c).cursor = h.cursor := rfl
@[simp] theorem fail_bytesConsumed (a : Nat) (c : ErrorKind) (h : Scanner) :
    (h.fail a c).bytesConsumed = h.bytesConsumed := rfl
@[simp] theorem fail_frames (a : Nat) (c : ErrorKind) (h : Scanner) :
    (h.fail a c).frames = h.frames := rfl
@[simp] theorem fail_received (a : Nat) (c : ErrorKind) (h : Scanner) :
    (h.fail a c).received = h.received := rfl
@[simp] theorem fail_endOfInput (a : Nat) (c : ErrorKind) (h : Scanner) :
    (h.fail a c).endOfInput = h.endOfInput := rfl
@[simp] theorem fail_reads (a : Nat) (c : ErrorKind) (h : Scanner) :
    (h.fail a c).reads = h.reads := rfl
@[simp] theorem fail_sourceEnds (a : Nat) (c : ErrorKind) (h : Scanner) :
    (h.fail a c).sourceEnds = h.sourceEnds := rfl
@[simp] theorem fail_pulling (a : Nat) (c : ErrorKind) (h : Scanner) :
    (h.fail a c).pulling = h.pulling := rfl
@[simp] theorem fail_pulls (a : Nat) (c : ErrorKind) (h : Scanner) :
    (h.fail a c).pulls = h.pulls := rfl

@[simp] theorem append_phase (a : Nat) (x : Sample) (h : Scanner) :
    (h.append a x).phase = .seeking := rfl
@[simp] theorem append_cursor (a : Nat) (x : Sample) (h : Scanner) :
    (h.append a x).cursor = a + x.length := rfl
@[simp] theorem append_bytesConsumed (a : Nat) (x : Sample) (h : Scanner) :
    (h.append a x).bytesConsumed = h.bytesConsumed + x.length := rfl
@[simp] theorem append_frames (a : Nat) (x : Sample) (h : Scanner) :
    (h.append a x).frames = h.frames ++ [frameOf a x] := rfl
@[simp] theorem append_received (a : Nat) (x : Sample) (h : Scanner) :
    (h.append a x).received = h.received := rfl
@[simp] theorem append_endOfInput (a : Nat) (x : Sample) (h : Scanner) :
    (h.append a x).endOfInput = h.endOfInput := rfl
@[simp] theorem append_reads (a : Nat) (x : Sample) (h : Scanner) :
    (h.append a x).reads = h.reads := rfl
@[simp] theorem append_sourceEnds (a : Nat) (x : Sample) (h : Scanner) :
    (h.append a x).sourceEnds = h.sourceEnds := rfl
@[simp] theorem append_pulling (a : Nat) (x : Sample) (h : Scanner) :
    (h.append a x).pulling = h.pulling := rfl
@[simp] theorem append_pulls (a : Nat) (x : Sample) (h : Scanner) :
    (h.append a x).pulls = h.pulls := rfl

@[simp] theorem resync_phase (a : Nat) (h : Scanner) :
    (h.resync a).phase = .seeking := rfl
@[simp] theorem resync_cursor (a : Nat) (h : Scanner) :
    (h.resync a).cursor = a + 1 := rfl
@[simp] theorem resync_bytesConsumed (a : Nat) (h : Scanner) :
    (h.resync a).bytesConsumed = h.bytesConsumed + 1 := rfl
@[simp] theorem resync_frames (a : Nat) (h : Scanner) :
    (h.resync a).frames = h.frames := rfl
@[simp] theorem resync_received (a : Nat) (h : Scanner) :
    (h.resync a).received = h.received := rfl
@[simp] theorem resync_endOfInput (a : Nat) (h : Scanner) :
    (h.resync a).endOfInput = h.endOfInput := rfl
@[simp] theorem resync_reads (a : Nat) (h : Scanner) :
    (h.resync a).reads = h.reads := rfl
@[simp] theorem resync_sourceEnds (a : Nat) (h : Scanner) :
    (h.resync a).sourceEnds = h.sourceEnds := rfl
@[simp] theorem resync_pulling (a : Nat) (h : Scanner) :
    (h.resync a).pulling = h.pulling := rfl
@[simp] theorem resync_pulls (a : Nat) (h : Scanner) :
    (h.resync a).pulls = h.pulls := rfl

@[simp] theorem readSource_phase (h : Scanner) : h.readSource.phase = h.phase := by
  unfold readSource
  split
  · rfl
  · split <;> rfl
@[simp] theorem readSource_cursor (h : Scanner) : h.readSource.cursor = h.cursor := by
  unfold readSource
  split
  · rfl
  · split <;> rfl
@[simp] theorem readSource_bytesConsumed (h : Scanner) : h.readSource.bytesConsumed = h.bytesConsumed := by
  unfold readSource
  split
  · rfl
  · split <;> rfl
@[simp] theorem readSource_frames (h : Scanner) : h.readSource.frames = h.frames := by
  unfold readSource
  split
  · rfl
  · split <;> rfl
@[simp] theorem readSource_sourceEnds (h : Scanner) : h.readSource.sourceEnds = h.sourceEnds := by
  unfold readSource
  split
  · rfl
  · split <;> rfl
@[simp] theorem readSource_pulling (h : Scanner) : h.readSource.pulling = h.pulling := by
  unfold readSource
  split
  · rfl
  · split <;> rfl
@[simp] theorem readSource_pulls (h : Scanner) : h.readSource.pulls = h.pulls := by
  unfold readSource
  split
  · rfl
  · split <;> rfl

/-- A read never loses a byte: what is buffered stays, and what is buffered and still to come is the same stream (R180). -/
theorem readSource_stream (h : Scanner) :
    h.readSource.received ++ h.readSource.reads.flatten = h.received ++ h.reads.flatten := by
  unfold readSource
  split
  · rename_i chunk rest hr
    simp [hr]
  · split <;> rfl

theorem readSource_received (h : Scanner) :
    h.readSource.received = h.received ++ h.reads.head?.getD [] := by
  unfold readSource
  split
  · rename_i chunk rest hr
    simp [hr]
  · rename_i hr
    split <;> simp [hr]

theorem readSource_ended (h : Scanner) (he : h.endOfInput = true → h.reads = [] ∧ h.sourceEnds = true) :
    h.readSource.endOfInput = true → h.readSource.reads = [] ∧ h.readSource.sourceEnds = true := by
  unfold readSource
  split
  · rename_i chunk rest hr
    intro h'
    simp [(he h').1] at hr
  · rename_i hr
    split
    · rename_i hs
      intro _
      exact ⟨hr, hs⟩
    · exact he

end Scanner

end Sys2Proof.Machine
end

