-- ==== Sys2Proof/Laws/Ops.lean ====
section
/-! SUPPORT. What each shared operation on the result registers can answer, said once. -/

namespace Sys2Proof.Machine

@[simp] theorem andThen_next (s : State) (k : State → Answer) : andThen (.next s) k = k s := rfl

@[simp] theorem andThen_fault (r : Fault) (k : State → Answer) : andThen (.fault r) k = .fault r := rfl

@[simp] theorem andThen_refused (r : Refusal) (k : State → Answer) : andThen (.refused r) k = .refused r := rfl

/-- A sequence completes exactly when both parts do. -/
theorem andThen_eq_next {a : Answer} {k : State → Answer} {t : State} :
    andThen a k = .next t ↔ ∃ s, a = .next s ∧ k s = .next t := by
  cases a <;> simp [andThen]

/-- An answer that leaves everything but the result registers alone. -/
def RegsOnly (s : State) (a : Answer) : Prop := ∃ r, a = .next (s.setRegs r)

theorem RegsOnly.frame {s t : State} {a : Answer} (h : RegsOnly s a) (ht : a = .next t) :
    t = s.setRegs t.regs := by
  obtain ⟨r, rfl⟩ := h
  injection ht with ht
  subst ht
  rfl

/-- Taking an error always completes with the error's bank (60_exceptions R212). -/
theorem raiseError_eq (e : HeaderError) (s : State) : raiseError e s = .next (s.setRegs (.ofError e)) := rfl

theorem raiseError_regsOnly (e : HeaderError) (s : State) : RegsOnly s (raiseError e s) := ⟨_, rfl⟩

theorem writeOrRaise_ok {α : Type} (a : α) (w : ResultRegs → α → ResultRegs) (s : State) :
    writeOrRaise (.ok a) w s = .next (s.setRegs (w s.regs a)) := rfl

theorem writeOrRaise_error {α : Type} (e : HeaderError) (w : ResultRegs → α → ResultRegs) (s : State) :
    writeOrRaise (.error e) w s = raiseError e s := rfl

/-- A decode step that may fail always completes, and touches the registers only. -/
theorem writeOrRaise_regsOnly {α : Type} (v : Except HeaderError α) (w : ResultRegs → α → ResultRegs) (s : State) :
    RegsOnly s (writeOrRaise v w s) := by
  cases v
  · exact ⟨_, rfl⟩
  · exact ⟨_, rfl⟩

theorem versionRow_regsOnly (c : BitVec 2) (s : State) : RegsOnly s (versionRow c s) := writeOrRaise_regsOnly _ _ _

theorem layerRow_regsOnly (c : BitVec 2) (s : State) : RegsOnly s (layerRow c s) := writeOrRaise_regsOnly _ _ _

theorem protectionRow_regsOnly (b : BitVec 1) (s : State) : RegsOnly s (protectionRow b s) := ⟨_, rfl⟩

theorem paddingRow_regsOnly (b : BitVec 1) (s : State) : RegsOnly s (paddingRow b s) := ⟨_, rfl⟩

theorem privateBitRow_regsOnly (b : BitVec 1) (s : State) : RegsOnly s (privateBitRow b s) := ⟨_, rfl⟩

theorem modeRow_regsOnly (c : BitVec 2) (s : State) : RegsOnly s (modeRow c s) := ⟨_, rfl⟩

theorem modeExtRow_regsOnly (m : ChannelMode) (l : Layer) (x : BitVec 2) (s : State) :
    RegsOnly s (modeExtRow m l x s) := ⟨_, rfl⟩

theorem copyrightRow_regsOnly (b : BitVec 1) (s : State) : RegsOnly s (copyrightRow b s) := ⟨_, rfl⟩

theorem originalRow_regsOnly (b : BitVec 1) (s : State) : RegsOnly s (originalRow b s) := ⟨_, rfl⟩

theorem emphasisRow_regsOnly (c : BitVec 2) (s : State) : RegsOnly s (emphasisRow c s) := writeOrRaise_regsOnly _ _ _

theorem layerIIRow_regsOnly (bps : Nat) (m : ChannelMode) (s : State) : RegsOnly s (layerIIRow bps m s) :=
  writeOrRaise_regsOnly _ _ _

/-- The bit-rate row touches the registers only, or it is an index 1 to 14 over a reserved code and faults (20_memory R47). -/
theorem bitrateRow_cases (idx : BitVec 4) (s : State) : RegsOnly s (bitrateRow idx s) ∨
    (idx ≠ 0#4 ∧ idx ≠ 0xF#4 ∧ (s.regs.hdrVersion = 1#2 ∨ s.regs.hdrLayer = 0#2) ∧
      bitrateRow idx s = .fault .unpopulatedRomAddress) := by
  unfold bitrateRow
  split
  · exact .inl ⟨_, rfl⟩
  split
  · exact .inl ⟨_, rfl⟩
  rename_i h0 h15
  rcases hv : decodeVersion s.regs.hdrVersion with e | v
  · exact .inr ⟨h0, h15, .inl (decodeVersion_error.1 hv).1, rfl⟩
  rcases hl : decodeLayer s.regs.hdrLayer with e | l
  · exact .inr ⟨h0, h15, .inr (decodeLayer_error.1 hl).1, rfl⟩
  exact .inl (writeOrRaise_regsOnly _ _ _)

/-- The bit-rate row with its column at hand writes the entry (40_header_decoder R105). -/
theorem bitrateRow_entry {idx : BitVec 4} {s : State} {v : Version} {l : Layer} (h0 : idx ≠ 0#4) (h15 : idx ≠ 0xF#4)
    (hv : decodeVersion s.regs.hdrVersion = .ok v) (hl : decodeLayer s.regs.hdrLayer = .ok l) :
    bitrateRow idx s = .next (s.setRegs { s.regs with
      hdrBitRateBps := Config.roms.bitrate ⟨idx.toNat, bitrateIdx_lt h15⟩ (bitrateCol v l) }) := by
  unfold bitrateRow
  rw [if_neg h0, if_neg h15, hv, hl]
  simp only [decodeBitrate_row Config.roms v l h0 (bitrateIdx_lt h15), writeOrRaise_ok, BitVec.ofNat_toNat,
    BitVec.setWidth_eq]

/-- The sample-rate row touches the registers only, or it is an index 0 to 2 over the reserved version and faults. -/
theorem srateRow_cases (sidx : BitVec 2) (s : State) : RegsOnly s (srateRow sidx s) ∨
    (sidx ≠ 3#2 ∧ s.regs.hdrVersion = 1#2 ∧ srateRow sidx s = .fault .unpopulatedRomAddress) := by
  unfold srateRow
  split
  · exact .inl ⟨_, rfl⟩
  rename_i h3
  rcases hv : decodeVersion s.regs.hdrVersion with e | v
  · exact .inr ⟨h3, (decodeVersion_error.1 hv).1, rfl⟩
  exact .inl (writeOrRaise_regsOnly _ _ _)

/-- The sample-rate row with its column at hand writes the entry (40_header_decoder R106). -/
theorem srateRow_entry {sidx : BitVec 2} {s : State} {v : Version} (h3 : sidx ≠ 3#2)
    (hv : decodeVersion s.regs.hdrVersion = .ok v) :
    srateRow sidx s = .next (s.setRegs { s.regs with
      hdrSampleRateHz := Config.roms.sampleRate ⟨sidx.toNat, srateIdx_lt h3⟩ v.vcol }) := by
  unfold srateRow
  rw [if_neg h3, hv]
  simp only [decodeSampleRate_row Config.roms v (srateIdx_lt h3), writeOrRaise_ok, BitVec.ofNat_toNat,
    BitVec.setWidth_eq]

/-- HDEC always completes, and touches the registers only (60_exceptions R212). -/
theorem execHdec_regsOnly (f : HeaderFields) (s : State) : RegsOnly s (execHdec f s) := by
  unfold execHdec
  split
  · exact ⟨_, rfl⟩
  · exact raiseError_regsOnly _ _

/-- FLEN on a valid record writes the length registers; on another record it is refused. -/
theorem execFlen_cases (h : FrameHeader) (s : State) :
    (h.valid Config.roms = true ∧ execFlen h s = .next (s.setRegs (s.regs.withLength (flen Config.roms h)))) ∨
      (h.valid Config.roms = false ∧ execFlen h s = .refused .invalidRecord) := by
  unfold execFlen
  cases hv : h.valid Config.roms <;> simp

/-- The error bank is never read as a header (10_state R29): its layer code is reserved. -/
@[simp] theorem ofError_header? (e : HeaderError) : (ResultRegs.ofError e).header? = none := by
  cases e <;> rfl

@[simp] theorem reset_header? : ResultRegs.reset.header? = none := rfl

end Sys2Proof.Machine
end

