-- ==== Sys2Proof/Laws/PerInstr.lean ====
section
/-! SUPPORT. Per-instruction facts, one lemma for each constructor. RowEncoding: the word a row encodes to matches the row's mask and match in the opcode table, and the row's step selects the row on that word. -/

namespace Sys2Proof.Laws.RowEncoding

/-- The encoding of a code-point row lies in the row's pattern, and its step reads the row from it; nothing is said of HDEC and FLEN, whose
encodings have an operand. -/
def Statement (i : Instr) : Prop :=
  ∀ st, i.decodeStep = some st →
    encode i &&& i.pattern.1 = i.pattern.2 ∧ rowAt (fieldsOf (encode i)) st = some i

/-- A row with its step known needs the two facts at that step only. -/
theorem of_step {i : Instr} {st : DecodeStep} (h : i.decodeStep = some st)
    (h1 : encode i &&& i.pattern.1 = i.pattern.2) (h2 : rowAt (fieldsOf (encode i)) st = some i) : Statement i := by
  intro st2 hst
  rw [h] at hst
  injection hst with hst
  subst hst
  exact ⟨h1, h2⟩

theorem hdec (f : HeaderFields) : Statement (.hdec f) := by
  intro st h; simp [Instr.decodeStep] at h

theorem flen (h : FrameHeader) : Statement (.flen h) := by
  intro st h; simp [Instr.decodeStep] at h

theorem versionMpeg25 : Statement .versionMpeg25 := of_step rfl (by decide) (by decide)

theorem versionReserved : Statement .versionReserved := of_step rfl (by decide) (by decide)

theorem versionMpeg2 : Statement .versionMpeg2 := of_step rfl (by decide) (by decide)

theorem versionMpeg1 : Statement .versionMpeg1 := of_step rfl (by decide) (by decide)

theorem layerReserved : Statement .layerReserved := of_step rfl (by decide) (by decide)

theorem layerIII : Statement .layerIII := of_step rfl (by decide) (by decide)

theorem layerII : Statement .layerII := of_step rfl (by decide) (by decide)

theorem layerI : Statement .layerI := of_step rfl (by decide) (by decide)

theorem protectionProtected : Statement .protectionProtected := of_step rfl (by decide) (by decide)

theorem protectionUnprotected : Statement .protectionUnprotected := of_step rfl (by decide) (by decide)

theorem bitrateIdx0 : Statement .bitrateIdx0 := of_step rfl (by decide) (by decide)

theorem bitrateIdx1 : Statement .bitrateIdx1 := of_step rfl (by decide) (by decide)

theorem bitrateIdx2 : Statement .bitrateIdx2 := of_step rfl (by decide) (by decide)

theorem bitrateIdx3 : Statement .bitrateIdx3 := of_step rfl (by decide) (by decide)

theorem bitrateIdx4 : Statement .bitrateIdx4 := of_step rfl (by decide) (by decide)

theorem bitrateIdx5 : Statement .bitrateIdx5 := of_step rfl (by decide) (by decide)

theorem bitrateIdx6 : Statement .bitrateIdx6 := of_step rfl (by decide) (by decide)

theorem bitrateIdx7 : Statement .bitrateIdx7 := of_step rfl (by decide) (by decide)

theorem bitrateIdx8 : Statement .bitrateIdx8 := of_step rfl (by decide) (by decide)

theorem bitrateIdx9 : Statement .bitrateIdx9 := of_step rfl (by decide) (by decide)

theorem bitrateIdx10 : Statement .bitrateIdx10 := of_step rfl (by decide) (by decide)

theorem bitrateIdx11 : Statement .bitrateIdx11 := of_step rfl (by decide) (by decide)

theorem bitrateIdx12 : Statement .bitrateIdx12 := of_step rfl (by decide) (by decide)

theorem bitrateIdx13 : Statement .bitrateIdx13 := of_step rfl (by decide) (by decide)

theorem bitrateIdx14 : Statement .bitrateIdx14 := of_step rfl (by decide) (by decide)

theorem bitrateIdx15 : Statement .bitrateIdx15 := of_step rfl (by decide) (by decide)

theorem srateIdx0 : Statement .srateIdx0 := of_step rfl (by decide) (by decide)

theorem srateIdx1 : Statement .srateIdx1 := of_step rfl (by decide) (by decide)

theorem srateIdx2 : Statement .srateIdx2 := of_step rfl (by decide) (by decide)

theorem srateIdx3 : Statement .srateIdx3 := of_step rfl (by decide) (by decide)

theorem padding0 : Statement .padding0 := of_step rfl (by decide) (by decide)

theorem padding1 : Statement .padding1 := of_step rfl (by decide) (by decide)

theorem privateBit0 : Statement .privateBit0 := of_step rfl (by decide) (by decide)

theorem privateBit1 : Statement .privateBit1 := of_step rfl (by decide) (by decide)

theorem modeStereo : Statement .modeStereo := of_step rfl (by decide) (by decide)

theorem modeJointStereo : Statement .modeJointStereo := of_step rfl (by decide) (by decide)

theorem modeDualChannel : Statement .modeDualChannel := of_step rfl (by decide) (by decide)

theorem modeSingleChannel : Statement .modeSingleChannel := of_step rfl (by decide) (by decide)

theorem modeExtJsLayerI0 : Statement .modeExtJsLayerI0 := of_step rfl (by decide) (by decide)

theorem modeExtJsLayerI1 : Statement .modeExtJsLayerI1 := of_step rfl (by decide) (by decide)

theorem modeExtJsLayerI2 : Statement .modeExtJsLayerI2 := of_step rfl (by decide) (by decide)

theorem modeExtJsLayerI3 : Statement .modeExtJsLayerI3 := of_step rfl (by decide) (by decide)

theorem modeExtJsLayerII0 : Statement .modeExtJsLayerII0 := of_step rfl (by decide) (by decide)

theorem modeExtJsLayerII1 : Statement .modeExtJsLayerII1 := of_step rfl (by decide) (by decide)

theorem modeExtJsLayerII2 : Statement .modeExtJsLayerII2 := of_step rfl (by decide) (by decide)

theorem modeExtJsLayerII3 : Statement .modeExtJsLayerII3 := of_step rfl (by decide) (by decide)

theorem modeExtJsLayerIII0 : Statement .modeExtJsLayerIII0 := of_step rfl (by decide) (by decide)

theorem modeExtJsLayerIII1 : Statement .modeExtJsLayerIII1 := of_step rfl (by decide) (by decide)

theorem modeExtJsLayerIII2 : Statement .modeExtJsLayerIII2 := of_step rfl (by decide) (by decide)

theorem modeExtJsLayerIII3 : Statement .modeExtJsLayerIII3 := of_step rfl (by decide) (by decide)

theorem modeExtIgnoredStereo : Statement .modeExtIgnoredStereo := of_step rfl (by decide) (by decide)

theorem modeExtIgnoredDualChannel : Statement .modeExtIgnoredDualChannel := of_step rfl (by decide) (by decide)

theorem modeExtIgnoredSingleChannel : Statement .modeExtIgnoredSingleChannel := of_step rfl (by decide) (by decide)

theorem copyright0 : Statement .copyright0 := of_step rfl (by decide) (by decide)

theorem copyright1 : Statement .copyright1 := of_step rfl (by decide) (by decide)

theorem original0 : Statement .original0 := of_step rfl (by decide) (by decide)

theorem original1 : Statement .original1 := of_step rfl (by decide) (by decide)

theorem emphasisNone : Statement .emphasisNone := of_step rfl (by decide) (by decide)

theorem emphasisMs5015 : Statement .emphasisMs5015 := of_step rfl (by decide) (by decide)

theorem emphasisReserved : Statement .emphasisReserved := of_step rfl (by decide) (by decide)

theorem emphasisCcitJ17 : Statement .emphasisCcitJ17 := of_step rfl (by decide) (by decide)

theorem l2checkMpeg1Rate32kStereo : Statement .l2checkMpeg1Rate32kStereo := of_step rfl (by decide) (by decide)

theorem l2checkMpeg1Rate32kJointStereo : Statement .l2checkMpeg1Rate32kJointStereo := of_step rfl (by decide) (by decide)

theorem l2checkMpeg1Rate32kDualChannel : Statement .l2checkMpeg1Rate32kDualChannel := of_step rfl (by decide) (by decide)

theorem l2checkMpeg1Rate48kStereo : Statement .l2checkMpeg1Rate48kStereo := of_step rfl (by decide) (by decide)

theorem l2checkMpeg1Rate48kJointStereo : Statement .l2checkMpeg1Rate48kJointStereo := of_step rfl (by decide) (by decide)

theorem l2checkMpeg1Rate48kDualChannel : Statement .l2checkMpeg1Rate48kDualChannel := of_step rfl (by decide) (by decide)

theorem l2checkMpeg1Rate56kStereo : Statement .l2checkMpeg1Rate56kStereo := of_step rfl (by decide) (by decide)

theorem l2checkMpeg1Rate56kJointStereo : Statement .l2checkMpeg1Rate56kJointStereo := of_step rfl (by decide) (by decide)

theorem l2checkMpeg1Rate56kDualChannel : Statement .l2checkMpeg1Rate56kDualChannel := of_step rfl (by decide) (by decide)

theorem l2checkMpeg1Rate80kStereo : Statement .l2checkMpeg1Rate80kStereo := of_step rfl (by decide) (by decide)

theorem l2checkMpeg1Rate80kJointStereo : Statement .l2checkMpeg1Rate80kJointStereo := of_step rfl (by decide) (by decide)

theorem l2checkMpeg1Rate80kDualChannel : Statement .l2checkMpeg1Rate80kDualChannel := of_step rfl (by decide) (by decide)

theorem l2checkMpeg1Rate224kSingleChannel : Statement .l2checkMpeg1Rate224kSingleChannel := of_step rfl (by decide) (by decide)

theorem l2checkMpeg1Rate256kSingleChannel : Statement .l2checkMpeg1Rate256kSingleChannel := of_step rfl (by decide) (by decide)

theorem l2checkMpeg1Rate320kSingleChannel : Statement .l2checkMpeg1Rate320kSingleChannel := of_step rfl (by decide) (by decide)

theorem l2checkMpeg1Rate384kSingleChannel : Statement .l2checkMpeg1Rate384kSingleChannel := of_step rfl (by decide) (by decide)

theorem l2checkMpeg2Rate32kStereo : Statement .l2checkMpeg2Rate32kStereo := of_step rfl (by decide) (by decide)

theorem l2checkMpeg2Rate32kJointStereo : Statement .l2checkMpeg2Rate32kJointStereo := of_step rfl (by decide) (by decide)

theorem l2checkMpeg2Rate32kDualChannel : Statement .l2checkMpeg2Rate32kDualChannel := of_step rfl (by decide) (by decide)

theorem l2checkMpeg2Rate48kStereo : Statement .l2checkMpeg2Rate48kStereo := of_step rfl (by decide) (by decide)

theorem l2checkMpeg2Rate48kJointStereo : Statement .l2checkMpeg2Rate48kJointStereo := of_step rfl (by decide) (by decide)

theorem l2checkMpeg2Rate48kDualChannel : Statement .l2checkMpeg2Rate48kDualChannel := of_step rfl (by decide) (by decide)

theorem l2checkMpeg2Rate56kStereo : Statement .l2checkMpeg2Rate56kStereo := of_step rfl (by decide) (by decide)

theorem l2checkMpeg2Rate56kJointStereo : Statement .l2checkMpeg2Rate56kJointStereo := of_step rfl (by decide) (by decide)

theorem l2checkMpeg2Rate56kDualChannel : Statement .l2checkMpeg2Rate56kDualChannel := of_step rfl (by decide) (by decide)

theorem l2checkMpeg2Rate80kStereo : Statement .l2checkMpeg2Rate80kStereo := of_step rfl (by decide) (by decide)

theorem l2checkMpeg2Rate80kJointStereo : Statement .l2checkMpeg2Rate80kJointStereo := of_step rfl (by decide) (by decide)

theorem l2checkMpeg2Rate80kDualChannel : Statement .l2checkMpeg2Rate80kDualChannel := of_step rfl (by decide) (by decide)

theorem l2checkMpeg25Rate32kStereo : Statement .l2checkMpeg25Rate32kStereo := of_step rfl (by decide) (by decide)

theorem l2checkMpeg25Rate32kJointStereo : Statement .l2checkMpeg25Rate32kJointStereo := of_step rfl (by decide) (by decide)

theorem l2checkMpeg25Rate32kDualChannel : Statement .l2checkMpeg25Rate32kDualChannel := of_step rfl (by decide) (by decide)

theorem l2checkMpeg25Rate48kStereo : Statement .l2checkMpeg25Rate48kStereo := of_step rfl (by decide) (by decide)

theorem l2checkMpeg25Rate48kJointStereo : Statement .l2checkMpeg25Rate48kJointStereo := of_step rfl (by decide) (by decide)

theorem l2checkMpeg25Rate48kDualChannel : Statement .l2checkMpeg25Rate48kDualChannel := of_step rfl (by decide) (by decide)

theorem l2checkMpeg25Rate56kStereo : Statement .l2checkMpeg25Rate56kStereo := of_step rfl (by decide) (by decide)

theorem l2checkMpeg25Rate56kJointStereo : Statement .l2checkMpeg25Rate56kJointStereo := of_step rfl (by decide) (by decide)

theorem l2checkMpeg25Rate56kDualChannel : Statement .l2checkMpeg25Rate56kDualChannel := of_step rfl (by decide) (by decide)

theorem l2checkMpeg25Rate80kStereo : Statement .l2checkMpeg25Rate80kStereo := of_step rfl (by decide) (by decide)

theorem l2checkMpeg25Rate80kJointStereo : Statement .l2checkMpeg25Rate80kJointStereo := of_step rfl (by decide) (by decide)

theorem l2checkMpeg25Rate80kDualChannel : Statement .l2checkMpeg25Rate80kDualChannel := of_step rfl (by decide) (by decide)

end Sys2Proof.Laws.RowEncoding
end

