-- ==== Sys2Proof/Laws/Step.lean ====
section
/-! SUPPORT. The parts of a step: what an edge and the time between two edges leave alone. -/

namespace Sys2Proof.Machine

@[simp] theorem hostTurn_regs (s : State) : (hostTurn s).regs = s.regs := by unfold hostTurn; split <;> rfl

@[simp] theorem hostTurn_inputs (s : State) : (hostTurn s).inputs = s.inputs := by unfold hostTurn; split <;> rfl

@[simp] theorem nextPins_regs (s : State) : (nextPins s).regs = s.regs := by unfold nextPins; split <;> rfl

@[simp] theorem nextPins_host (s : State) : (nextPins s).host = s.host := by unfold nextPins; split <;> rfl

/-- The host and the outside world never write a result register (70_reset_and_hazards R243). -/
@[simp] theorem betweenEdges_regs (s : State) : (betweenEdges s).regs = s.regs := by simp [betweenEdges]

theorem betweenEdges_host_scanner {s : State} (h : s.driver = .scanner) :
    (betweenEdges s).host = s.host.turn s.regs := by simp [betweenEdges, hostTurn, h]

theorem betweenEdges_host_outside {s : State} (h : s.driver = .outside) :
    (betweenEdges s).host = s.host := by simp [betweenEdges, hostTurn, h]

theorem betweenEdges_pins_of_no_inputs {s : State} (h : s.inputs = []) :
    (betweenEdges s).pins = (betweenEdges s).host.drive := by
  simp [betweenEdges, nextPins, h]

/-- A queued port value is what the next edge sees (70_reset_and_hazards R241; log 4). -/
theorem nextPins_cons {s : State} {p : Pins} {rest : List Pins} (h : s.inputs = p :: rest) :
    nextPins s = { s with pins := p, inputs := rest, driver := .outside } := by simp [nextPins, h]

/-- With none queued the scanner drives (45_host_stream_scanner R184; log 4). -/
theorem nextPins_nil {s : State} (h : s.inputs = []) :
    nextPins s = { s with pins := s.host.drive, driver := .scanner } := by simp [nextPins, h]

/-- A step is its edge and then the time until the next one. -/
theorem step_of_clockEdge {s t : State} (h : clockEdge s = .next t) : step s = .next (betweenEdges t) := by
  simp [step, h]

theorem clockEdge_rst {s : State} (h : s.pins.rst = true) : clockEdge s = .next (resetEdge s) := by
  simp [clockEdge, h]

theorem clockEdge_idle {s : State} (h1 : s.pins.rst = false) (h2 : s.pins.inValid = false) :
    clockEdge s = .next (idleEdge s) := by
  simp [clockEdge, h1, h2]

theorem clockEdge_word {s : State} (h1 : s.pins.rst = false) (h2 : s.pins.inValid = true) :
    clockEdge s = wordEdge s := by
  simp [clockEdge, h1, h2]

/-- FLEN runs on the header the registers hold (42_frame_length R160). -/
theorem flenStage_ok {s : State} {h : FrameHeader} (h1 : s.regs.outStatus = statusOk)
    (h2 : s.regs.header? = some h) : flenStage s = exec (.flen h) s := by
  simp [flenStage, h1, h2]

/-- FLEN does not run after a header error (42_frame_length R160). -/
theorem flenStage_error {s : State} (h1 : s.regs.outStatus ≠ statusOk) : flenStage s = .next s := by
  simp [flenStage, h1]

/-- One read of the source keeps every buffered byte (45_host_stream_scanner R180). -/
theorem readSource_prefix (h : Scanner) : h.received <+: h.readSource.received := by
  rw [Scanner.readSource_received]
  exact List.prefix_append _ _

/-- A window exists exactly when four bytes are there (45_host_stream_scanner R174). -/
theorem windowAt_eq_none {bytes : List Byte} {pos : Nat} : windowAt bytes pos = none ↔ bytes.length < pos + 4 := by
  unfold windowAt
  have hl := List.length_drop (i := pos) (l := bytes)
  split
  · rename_i h; rw [h] at hl; simp at hl ⊢; omega
  · rename_i h
    simp only [true_iff]
    by_contra hc
    match hd : bytes.drop pos, h with
    | [], _ => rw [hd] at hl; simp at hl; omega
    | [_], _ => rw [hd] at hl; simp at hl; omega
    | [_, _], _ => rw [hd] at hl; simp at hl; omega
    | [_, _, _], _ => rw [hd] at hl; simp at hl; omega
    | b0 :: b1 :: b2 :: b3 :: r, h => exact h b0 b1 b2 b3 r rfl

/-- A window stays what it is when more bytes arrive. -/
theorem windowAt_prefix {a b : List Byte} {pos : Nat} {w : Word} (hp : a <+: b) (h : windowAt a pos = some w) :
    windowAt b pos = some w := by
  obtain ⟨c, rfl⟩ := hp
  unfold windowAt at h ⊢
  have hle : pos ≤ a.length := by
    by_contra hc
    rw [List.drop_eq_nil_of_le (by omega)] at h
    simp at h
  rw [List.drop_append_of_le_length hle]
  split at h
  · rename_i hd; rw [hd]; exact h
  · simp at h

end Sys2Proof.Machine
end

