-- ==== Sys2Proof/Tests/Slice0.lean ====
section
/-! SUPPORT. Tests on fixed values and the witnesses of the statements' hypotheses. Expected values are those of spec/95_test_vectors.md or worked by hand from the rules named; the row words are the opcode table's match bits with the open bits of a MPEG1, Layer III, index 9 word. -/

namespace Sys2Proof.Tests

open Sys2Proof Sys2Proof.Machine Sys2Proof.Claims

/-- The registers after one step, if it gives a next state. -/
def regsAfter (s : State) : Option ResultRegs :=
  match step s with
  | .next t => some t.regs
  | .fault _ => none
  | .refused _ => none

/-- The host after one step, if it gives a next state. -/
def hostAfter (s : State) : Option Scanner :=
  match step s with
  | .next t => some t.host
  | .fault _ => none
  | .refused _ => none

/-- The input ports after one step, if it gives a next state. -/
def portsAfter (s : State) : Option Pins :=
  match step s with
  | .next t => some t.pins
  | .fault _ => none
  | .refused _ => none

/-- The reset state with one word at the ports. -/
def fed (w : Nat) : State := State.reset.withFetchWord 32 w

/-- The reset state with other registers. -/
def withRegs (r : ResultRegs) : State := State.reset.setRegs r

/-- Registers that hold a version code and a layer code. -/
def codes (v l : BitVec 2) : ResultRegs := { ResultRegs.reset with hdrVersion := v, hdrLayer := l }

/-- What `HDEC` and `FLEN` make of a word: bit rate, sample rate, length. -/
def summary (w : Word) : Option (Nat × Nat × Option Nat) :=
  match hdec Config.roms (fieldsOf w) with
  | .error _ => none
  | .ok h =>
    match flen Config.roms h with
    | .ok n => some (h.bitRateBps, h.sampleRateHz, some n)
    | .error _ => some (h.bitRateBps, h.sampleRateHz, none)

/-- The error `HDEC` gives on a word. -/
def errorOf (w : Word) : Option HeaderError :=
  match hdec Config.roms (fieldsOf w) with
  | .error e => some e
  | .ok _ => none

/-- The union `HDEC` gives on a word. -/
def jseOf (w : Word) : Option JointStereoExt :=
  match hdec Config.roms (fieldsOf w) with
  | .error _ => none
  | .ok h => some h.jointStereoExt

/-- The record of 0xFFFB90E3 (95_test_vectors S1a). -/
def recordS1a : FrameHeader :=
  { version := .mpeg1, layer := .layerIII, hasCrc := false, bitRateBps := 128000, sampleRateHz := 44100,
    padded := false, privateBit := false, channelMode := .singleChannel, jointStereoExt := .absent,
    copyrighted := false, original := false, emphasis := .ccitJ17 }

/-- The record of 0xFFF31400, frame A (95_test_vectors part 4). -/
def recordA : FrameHeader :=
  { version := .mpeg2, layer := .layerIII, hasCrc := false, bitRateBps := 8000, sampleRateHz := 24000,
    padded := false, privateBit := false, channelMode := .stereo, jointStereoExt := .absent,
    copyrighted := false, original := false, emphasis := .none }

/-! Well-formedness: one ill-formed term for each check. -/

/-- A word with a reserved layer is the row layer.reserved, not HDEC (30_encoding R77). -/
theorem test_wf_hdec_reserved_layer : (Instr.hdec (fieldsOf 0xFFE00000#32)).wf = false := by decide

/-- A word without sync is HDEC's own. -/
theorem test_wf_hdec_no_sync : (Instr.hdec (fieldsOf 0x12345678#32)).wf = true := by decide

theorem test_wf_hdec_accepted : (Instr.hdec (fieldsOf 0xFFFB90E3#32)).wf = true := by decide

/-- No entry of the column is 128001 (40_header_decoder R115). -/
theorem test_wf_flen_bit_rate : (Instr.flen { recordS1a with bitRateBps := 128001 }).wf = false := by decide

theorem test_wf_flen_sample_rate : (Instr.flen { recordS1a with sampleRateHz := 0 }).wf = false := by decide

/-- A band start does not go with SingleChannel (R115). -/
theorem test_wf_flen_union : (Instr.flen { recordS1a with jointStereoExt := .bandStart 4 }).wf = false := by decide

/-- Layer II, SingleChannel, 320000 is prohibited (R112). -/
theorem test_wf_flen_pair : (Instr.flen { recordS1a with layer := .layerII, bitRateBps := 320000 }).wf = false := by decide

theorem test_wf_flen_valid : (Instr.flen recordS1a).wf = true := by decide

/-! Decoding: every row by a word written out from its encoding. -/

/-- The thirteen fields of 0xFFFB90E3, bit by bit (95_test_vectors V1). -/
theorem test_decode_hdec : decodeTableWord 32 0xFFFB90E3 = some (.hdec
    { sync := 0b11111111111#11, version := 0b11#2, layer := 0b01#2, protection := 0b1#1, bitrateIdx := 0b1001#4,
      srateIdx := 0b00#2, padding := 0b0#1, privateBit := 0b0#1, mode := 0b11#2, modeExt := 0b10#2,
      copyright := 0b0#1, original := 0b0#1, emphasis := 0b11#2 }) := by decide

/-- A word whose fields all differ from its neighbours (95_test_vectors V1). -/
theorem test_decode_fields : fieldsOf 0x12345678#32 =
    { sync := 0x091#11, version := 2#2, layer := 2#2, protection := 0#1, bitrateIdx := 5#4, srateIdx := 1#2,
      padding := 1#1, privateBit := 0#1, mode := 1#2, modeExt := 3#2, copyright := 1#1, original := 0#1,
      emphasis := 0#2 } := by decide

/-- FLEN's word is the word HDEC decodes to its record, ignored bits 0 (log 11). -/
theorem test_encode_flen : encode (.flen recordS1a) = 0xFFFB90C3#32 ∧
    hdec Config.roms (fieldsOf 0xFFFB90C3#32) = .ok recordS1a := by decide

theorem test_decode_rest : decode [0xFF, 0xFB, 0xF0, 0xE3, 0x07] = .ok (.bitrateIdx15, [0x07]) := by decide

theorem test_decode_short : decode [0xFF, 0xFB, 0x90] = .error .shortWindow := by decide

theorem test_rows_version :
    rowAt (fieldsOf 0xFFE39000#32) .version = some .versionMpeg25 ∧
    rowAt (fieldsOf 0xFFEB9000#32) .version = some .versionReserved ∧
    rowAt (fieldsOf 0xFFF39000#32) .version = some .versionMpeg2 ∧
    rowAt (fieldsOf 0xFFFB9000#32) .version = some .versionMpeg1 := by decide

theorem test_rows_layer :
    rowAt (fieldsOf 0xFFF99000#32) .layer = some .layerReserved ∧
    rowAt (fieldsOf 0xFFFB9000#32) .layer = some .layerIII ∧
    rowAt (fieldsOf 0xFFFD9000#32) .layer = some .layerII ∧
    rowAt (fieldsOf 0xFFFF9000#32) .layer = some .layerI := by decide

theorem test_rows_protection :
    rowAt (fieldsOf 0xFFFA9000#32) .protection = some .protectionProtected ∧
    rowAt (fieldsOf 0xFFFB9000#32) .protection = some .protectionUnprotected := by decide

theorem test_rows_bitrate :
    rowAt (fieldsOf 0xFFFB0000#32) .bitrate = some .bitrateIdx0 ∧
    rowAt (fieldsOf 0xFFFB1000#32) .bitrate = some .bitrateIdx1 ∧
    rowAt (fieldsOf 0xFFFB2000#32) .bitrate = some .bitrateIdx2 ∧
    rowAt (fieldsOf 0xFFFB3000#32) .bitrate = some .bitrateIdx3 ∧
    rowAt (fieldsOf 0xFFFB4000#32) .bitrate = some .bitrateIdx4 ∧
    rowAt (fieldsOf 0xFFFB5000#32) .bitrate = some .bitrateIdx5 ∧
    rowAt (fieldsOf 0xFFFB6000#32) .bitrate = some .bitrateIdx6 ∧
    rowAt (fieldsOf 0xFFFB7000#32) .bitrate = some .bitrateIdx7 ∧
    rowAt (fieldsOf 0xFFFB8000#32) .bitrate = some .bitrateIdx8 ∧
    rowAt (fieldsOf 0xFFFB9000#32) .bitrate = some .bitrateIdx9 ∧
    rowAt (fieldsOf 0xFFFBA000#32) .bitrate = some .bitrateIdx10 ∧
    rowAt (fieldsOf 0xFFFBB000#32) .bitrate = some .bitrateIdx11 ∧
    rowAt (fieldsOf 0xFFFBC000#32) .bitrate = some .bitrateIdx12 ∧
    rowAt (fieldsOf 0xFFFBD000#32) .bitrate = some .bitrateIdx13 ∧
    rowAt (fieldsOf 0xFFFBE000#32) .bitrate = some .bitrateIdx14 ∧
    rowAt (fieldsOf 0xFFFBF000#32) .bitrate = some .bitrateIdx15 := by decide

theorem test_rows_srate :
    rowAt (fieldsOf 0xFFFB9000#32) .srate = some .srateIdx0 ∧
    rowAt (fieldsOf 0xFFFB9400#32) .srate = some .srateIdx1 ∧
    rowAt (fieldsOf 0xFFFB9800#32) .srate = some .srateIdx2 ∧
    rowAt (fieldsOf 0xFFFB9C00#32) .srate = some .srateIdx3 := by decide

theorem test_rows_padding :
    rowAt (fieldsOf 0xFFFB9000#32) .padding = some .padding0 ∧
    rowAt (fieldsOf 0xFFFB9200#32) .padding = some .padding1 := by decide

theorem test_rows_privateBit :
    rowAt (fieldsOf 0xFFFB9000#32) .privateBit = some .privateBit0 ∧
    rowAt (fieldsOf 0xFFFB9100#32) .privateBit = some .privateBit1 := by decide

theorem test_rows_mode :
    rowAt (fieldsOf 0xFFFB9000#32) .mode = some .modeStereo ∧
    rowAt (fieldsOf 0xFFFB9040#32) .mode = some .modeJointStereo ∧
    rowAt (fieldsOf 0xFFFB9080#32) .mode = some .modeDualChannel ∧
    rowAt (fieldsOf 0xFFFB90C0#32) .mode = some .modeSingleChannel := by decide

theorem test_rows_modeExt :
    rowAt (fieldsOf 0xFFFF9040#32) .modeExt = some .modeExtJsLayerI0 ∧
    rowAt (fieldsOf 0xFFFF9050#32) .modeExt = some .modeExtJsLayerI1 ∧
    rowAt (fieldsOf 0xFFFF9060#32) .modeExt = some .modeExtJsLayerI2 ∧
    rowAt (fieldsOf 0xFFFF9070#32) .modeExt = some .modeExtJsLayerI3 ∧
    rowAt (fieldsOf 0xFFFD9040#32) .modeExt = some .modeExtJsLayerII0 ∧
    rowAt (fieldsOf 0xFFFD9050#32) .modeExt = some .modeExtJsLayerII1 ∧
    rowAt (fieldsOf 0xFFFD9060#32) .modeExt = some .modeExtJsLayerII2 ∧
    rowAt (fieldsOf 0xFFFD9070#32) .modeExt = some .modeExtJsLayerII3 ∧
    rowAt (fieldsOf 0xFFFB9040#32) .modeExt = some .modeExtJsLayerIII0 ∧
    rowAt (fieldsOf 0xFFFB9050#32) .modeExt = some .modeExtJsLayerIII1 ∧
    rowAt (fieldsOf 0xFFFB9060#32) .modeExt = some .modeExtJsLayerIII2 ∧
    rowAt (fieldsOf 0xFFFB9070#32) .modeExt = some .modeExtJsLayerIII3 ∧
    rowAt (fieldsOf 0xFFFB9000#32) .modeExt = some .modeExtIgnoredStereo ∧
    rowAt (fieldsOf 0xFFFB9080#32) .modeExt = some .modeExtIgnoredDualChannel ∧
    rowAt (fieldsOf 0xFFFB90C0#32) .modeExt = some .modeExtIgnoredSingleChannel := by decide

theorem test_rows_copyright :
    rowAt (fieldsOf 0xFFFB9000#32) .copyright = some .copyright0 ∧
    rowAt (fieldsOf 0xFFFB9008#32) .copyright = some .copyright1 := by decide

theorem test_rows_original :
    rowAt (fieldsOf 0xFFFB9000#32) .original = some .original0 ∧
    rowAt (fieldsOf 0xFFFB9004#32) .original = some .original1 := by decide

theorem test_rows_emphasis :
    rowAt (fieldsOf 0xFFFB9000#32) .emphasis = some .emphasisNone ∧
    rowAt (fieldsOf 0xFFFB9001#32) .emphasis = some .emphasisMs5015 ∧
    rowAt (fieldsOf 0xFFFB9002#32) .emphasis = some .emphasisReserved ∧
    rowAt (fieldsOf 0xFFFB9003#32) .emphasis = some .emphasisCcitJ17 := by decide

theorem test_rows_layerII_mpeg1 :
    rowAt (fieldsOf 0xFFFD1000#32) .layerII = some .l2checkMpeg1Rate32kStereo ∧
    rowAt (fieldsOf 0xFFFD1040#32) .layerII = some .l2checkMpeg1Rate32kJointStereo ∧
    rowAt (fieldsOf 0xFFFD1080#32) .layerII = some .l2checkMpeg1Rate32kDualChannel ∧
    rowAt (fieldsOf 0xFFFD2000#32) .layerII = some .l2checkMpeg1Rate48kStereo ∧
    rowAt (fieldsOf 0xFFFD2040#32) .layerII = some .l2checkMpeg1Rate48kJointStereo ∧
    rowAt (fieldsOf 0xFFFD2080#32) .layerII = some .l2checkMpeg1Rate48kDualChannel ∧
    rowAt (fieldsOf 0xFFFD3000#32) .layerII = some .l2checkMpeg1Rate56kStereo ∧
    rowAt (fieldsOf 0xFFFD3040#32) .layerII = some .l2checkMpeg1Rate56kJointStereo ∧
    rowAt (fieldsOf 0xFFFD3080#32) .layerII = some .l2checkMpeg1Rate56kDualChannel ∧
    rowAt (fieldsOf 0xFFFD5000#32) .layerII = some .l2checkMpeg1Rate80kStereo ∧
    rowAt (fieldsOf 0xFFFD5040#32) .layerII = some .l2checkMpeg1Rate80kJointStereo ∧
    rowAt (fieldsOf 0xFFFD5080#32) .layerII = some .l2checkMpeg1Rate80kDualChannel ∧
    rowAt (fieldsOf 0xFFFDB0C0#32) .layerII = some .l2checkMpeg1Rate224kSingleChannel ∧
    rowAt (fieldsOf 0xFFFDC0C0#32) .layerII = some .l2checkMpeg1Rate256kSingleChannel ∧
    rowAt (fieldsOf 0xFFFDD0C0#32) .layerII = some .l2checkMpeg1Rate320kSingleChannel ∧
    rowAt (fieldsOf 0xFFFDE0C0#32) .layerII = some .l2checkMpeg1Rate384kSingleChannel := by decide

theorem test_rows_layerII_mpeg2 :
    rowAt (fieldsOf 0xFFF54000#32) .layerII = some .l2checkMpeg2Rate32kStereo ∧
    rowAt (fieldsOf 0xFFF54040#32) .layerII = some .l2checkMpeg2Rate32kJointStereo ∧
    rowAt (fieldsOf 0xFFF54080#32) .layerII = some .l2checkMpeg2Rate32kDualChannel ∧
    rowAt (fieldsOf 0xFFF56000#32) .layerII = some .l2checkMpeg2Rate48kStereo ∧
    rowAt (fieldsOf 0xFFF56040#32) .layerII = some .l2checkMpeg2Rate48kJointStereo ∧
    rowAt (fieldsOf 0xFFF56080#32) .layerII = some .l2checkMpeg2Rate48kDualChannel ∧
    rowAt (fieldsOf 0xFFF57000#32) .layerII = some .l2checkMpeg2Rate56kStereo ∧
    rowAt (fieldsOf 0xFFF57040#32) .layerII = some .l2checkMpeg2Rate56kJointStereo ∧
    rowAt (fieldsOf 0xFFF57080#32) .layerII = some .l2checkMpeg2Rate56kDualChannel ∧
    rowAt (fieldsOf 0xFFF59000#32) .layerII = some .l2checkMpeg2Rate80kStereo ∧
    rowAt (fieldsOf 0xFFF59040#32) .layerII = some .l2checkMpeg2Rate80kJointStereo ∧
    rowAt (fieldsOf 0xFFF59080#32) .layerII = some .l2checkMpeg2Rate80kDualChannel := by decide

theorem test_rows_layerII_mpeg25 :
    rowAt (fieldsOf 0xFFE54000#32) .layerII = some .l2checkMpeg25Rate32kStereo ∧
    rowAt (fieldsOf 0xFFE54040#32) .layerII = some .l2checkMpeg25Rate32kJointStereo ∧
    rowAt (fieldsOf 0xFFE54080#32) .layerII = some .l2checkMpeg25Rate32kDualChannel ∧
    rowAt (fieldsOf 0xFFE56000#32) .layerII = some .l2checkMpeg25Rate48kStereo ∧
    rowAt (fieldsOf 0xFFE56040#32) .layerII = some .l2checkMpeg25Rate48kJointStereo ∧
    rowAt (fieldsOf 0xFFE56080#32) .layerII = some .l2checkMpeg25Rate48kDualChannel ∧
    rowAt (fieldsOf 0xFFE57000#32) .layerII = some .l2checkMpeg25Rate56kStereo ∧
    rowAt (fieldsOf 0xFFE57040#32) .layerII = some .l2checkMpeg25Rate56kJointStereo ∧
    rowAt (fieldsOf 0xFFE57080#32) .layerII = some .l2checkMpeg25Rate56kDualChannel ∧
    rowAt (fieldsOf 0xFFE59000#32) .layerII = some .l2checkMpeg25Rate80kStereo ∧
    rowAt (fieldsOf 0xFFE59040#32) .layerII = some .l2checkMpeg25Rate80kJointStereo ∧
    rowAt (fieldsOf 0xFFE59080#32) .layerII = some .l2checkMpeg25Rate80kDualChannel := by decide

/-- The rows that name an error are what the decoder answers. -/
theorem test_decode_error_rows :
    decodeTableWord 32 0xFFEB9000 = some .versionReserved ∧
    decodeTableWord 32 0xFFF99000 = some .layerReserved ∧
    decodeTableWord 32 0xFFFBF000 = some .bitrateIdx15 ∧
    decodeTableWord 32 0xFFFB9C00 = some .srateIdx3 ∧
    decodeTableWord 32 0xFFFB9002 = some .emphasisReserved ∧
    decodeTableWord 32 0xFFFD1000 = some .l2checkMpeg1Rate32kStereo ∧
    decodeTableWord 32 0xFFE59080 = some .l2checkMpeg25Rate80kDualChannel := by decide

/-- Steps before a failing one are listed, steps after it are not (40_header_decoder R114): version, layer, protection, index 15. -/
theorem test_rowsOf_stops : rowsOf (fieldsOf 0xFFFBF0E3#32) =
    [.versionMpeg1, .layerIII, .protectionUnprotected, .bitrateIdx15] := by decide

/-! HDEC and FLEN: the worked examples of the spec. -/

/-- S1a. -/
theorem test_hdec_accepts : hdec Config.roms (fieldsOf 0xFFFB90E3#32) = .ok recordS1a := by decide

/-- V2: fields in every position. -/
theorem test_hdec_all_flags : hdec Config.roms (fieldsOf 0xFFFFE7FD#32) = .ok
    { version := .mpeg1, layer := .layerI, hasCrc := false, bitRateBps := 448000, sampleRateHz := 48000,
      padded := true, privateBit := true, channelMode := .singleChannel, jointStereoExt := .absent,
      copyrighted := true, original := true, emphasis := .ms5015 } := by decide

/-- V3: one word for each error, at the boundary of its check. -/
theorem test_hdec_errors :
    errorOf 0x7FFFFFFF#32 = some .syncWordMissing ∧ errorOf 0xFFDFFFFF#32 = some .syncWordMissing ∧
    errorOf 0xFFEBFFFF#32 = some .reservedVersion ∧ errorOf 0xFFE1FFFF#32 = some .reservedLayer ∧
    errorOf 0xFFFFFFFF#32 = some .invalidBitrateIndex ∧ errorOf 0xFFF20C00#32 = some .reservedSampleRate ∧
    errorOf 0xFFF20002#32 = some .reservedEmphasis ∧
    errorOf 0xFFF54000#32 = some .prohibitedBitrateChannelCombination := by decide

/-- V4: the earliest failing step is reported. -/
theorem test_hdec_priority :
    errorOf 0x00180002#32 = some .syncWordMissing ∧ errorOf 0xFFE80002#32 = some .reservedVersion ∧
    errorOf 0xFFE0FC02#32 = some .reservedLayer ∧ errorOf 0xFFFFFFFE#32 = some .invalidBitrateIndex ∧
    errorOf 0xFFFB9CE2#32 = some .reservedSampleRate ∧ errorOf 0xFFFDD0C6#32 = some .reservedEmphasis ∧
    errorOf 0xFFFDDCC4#32 = some .reservedSampleRate := by decide

/-- V5. -/
theorem test_hdec_mode_extension :
    jseOf 0xFFFF9040#32 = some (.bandStart 4) ∧ jseOf 0xFFFF9070#32 = some (.bandStart 16) ∧
    jseOf 0xFFFD9060#32 = some (.bandStart 12) ∧ jseOf 0xFFFB9050#32 = some (.stereoFlags true false) ∧
    jseOf 0xFFFB9060#32 = some (.stereoFlags false true) ∧ jseOf 0xFFFB90B0#32 = some .absent := by decide

/-- V6: a first and a last row of each of the five columns, all three sample-rate rows. -/
theorem test_rom_columns :
    summary 0xFFFF1000#32 = some (32000, 44100, some 34) ∧ summary 0xFFFFE800#32 = some (448000, 32000, some 672) ∧
    summary 0xFFFD10C0#32 = some (32000, 44100, some 104) ∧ summary 0xFFFDE400#32 = some (384000, 48000, some 1152) ∧
    summary 0xFFFB1000#32 = some (32000, 44100, some 104) := by decide

theorem test_rom_columns_rest :
    summary 0xFFFBE000#32 = some (320000, 44100, some 1044) ∧ summary 0xFFF7E400#32 = some (256000, 24000, some 512) ∧ summary 0xFFE7E000#32 = some (256000, 11025, some 1114) ∧
    summary 0xFFE510C0#32 = some (8000, 11025, some 104) ∧ summary 0xFFE3E800#32 = some (160000, 8000, some 1440) := by
  decide

/-- V7: the same rate, other mode or other layer, passes. -/
theorem test_layerII_check_passes :
    errorOf 0xFFFD10C0#32 = none ∧ errorOf 0xFFFDB000#32 = none ∧ errorOf 0xFFFDB0C0#32 ≠ none ∧
    errorOf 0xFFFB1000#32 = none ∧ errorOf 0xFFFF10C0#32 = none ∧ errorOf 0xFFFD00C4#32 = none := by decide

/-- V8: padding 1, CRC 2, both 3. -/
theorem test_flen_adjustments :
    flen Config.roms { recordS1a with padded := true } = .ok 418 ∧
    flen Config.roms { recordS1a with hasCrc := true } = .ok 419 ∧
    flen Config.roms { recordS1a with padded := true, hasCrc := true } = .ok 420 ∧
    flen Config.roms { recordS1a with bitRateBps := 0 } = .error .undefinedFrameLength ∧
    payloadLen { recordS1a with hasCrc := true } 419 = 413 := by decide

/-- 20_memory R46: rows are indices, columns are version and layer; nothing at index 15. -/
theorem test_memRead :
    memRead Config.roms .bitrateRom (bitrateAddr 1#3 13#4).toNat = some 320000 ∧
    memRead Config.roms .bitrateRom (bitrateAddr 1#3 15#4).toNat = none ∧
    memRead Config.roms .sampleRateRom (sampleRateAddr 2#2 1#2).toNat = some 12000 ∧
    memRead Config.roms .spfRom (spfAddr 2#2 1#2).toNat = some 576 := by decide

/-! Steps: the register-level vectors (95_test_vectors part 3). -/

theorem test_step_accepts : regsAfter (fed 0xFFFB90E3) = some
    { ResultRegs.reset with outValid := true, hdrVersion := 3#2, hdrLayer := 1#2, hdrBitRateBps := 128000#19,
                            hdrSampleRateHz := 44100#16, hdrChannelMode := 3#2, hdrEmphasis := 3#2,
                            lenStatus := 0#2, lenBytes := 417#16 } := by decide

theorem test_step_band_start : regsAfter (fed 0xFFFD9054) = some
    { ResultRegs.reset with outValid := true, hdrVersion := 3#2, hdrLayer := 2#2, hdrBitRateBps := 160000#19,
                            hdrSampleRateHz := 44100#16, hdrChannelMode := 1#2, hdrJseTag := 1#2,
                            hdrBandStart := 8#5, hdrOriginal := true, lenStatus := 0#2, lenBytes := 522#16 } := by decide

theorem test_step_longest : regsAfter (fed 0xFFE4EA00) = some
    { ResultRegs.reset with outValid := true, hdrLayer := 2#2, hdrHasCrc := true, hdrBitRateBps := 160000#19,
                            hdrSampleRateHz := 8000#16, hdrPadded := true, lenStatus := 0#2, lenBytes := 2883#16 } := by
  decide

theorem test_step_free_bit_rate : regsAfter (fed 0xFFFB0064) = some
    { ResultRegs.reset with outValid := true, hdrVersion := 3#2, hdrLayer := 1#2, hdrSampleRateHz := 44100#16,
                            hdrChannelMode := 1#2, hdrJseTag := 2#2, hdrMs := true, hdrOriginal := true,
                            lenStatus := 1#2 } := by decide

/-- An error leaves nothing of an earlier result (E0, edge 4). -/
theorem test_step_error : regsAfter ((withRegs (codes 3#2 1#2)).withFetchWord 32 0xFFFDD0C4) = some
    { ResultRegs.reset with outValid := true, outStatus := 7#4 } := by decide

theorem test_step_no_sync : regsAfter (fed 0) = some
    { ResultRegs.reset with outValid := true, outStatus := 1#4 } := by decide

/-- E0, edge 1: from unspecified registers, the word at the same edge is dropped. -/
theorem test_step_reset : regsAfter { State.powerUp with pins := ⟨true, true, 0xFFFB90E3⟩ } =
    some ResultRegs.reset := by rfl

/-- E0, edge 6: without a word only out_valid changes. -/
theorem test_step_idle : regsAfter (withRegs { codes 3#2 1#2 with outValid := true, lenBytes := 417#16 }) =
    some { codes 3#2 1#2 with lenBytes := 417#16 } := by decide

/-- `nbits` cuts the word: the bits above are 0. -/
theorem test_fetch_word_nbits : (State.reset.withFetchWord 8 0xFFFFFFFF).pins.inWord = 0xFF#32 := by decide

/-! Rows run by themselves. -/

theorem test_row_bitrate : execBitrateIdx14 (withRegs (codes 0#2 1#2)) =
    .next (withRegs { codes 0#2 1#2 with hdrBitRateBps := 160000#19 }) := rfl

theorem test_row_bitrate_no_column : execBitrateIdx1 State.reset = .fault .unpopulatedRomAddress := rfl

theorem test_row_srate : execSrateIdx1 (withRegs (codes 2#2 0#2)) =
    .next (withRegs { codes 2#2 0#2 with hdrSampleRateHz := 24000#16 }) := rfl

/-- Low bit intensity, high bit ms (30_encoding R69). -/
theorem test_row_mode_ext : execModeExtJsLayerIII1 State.reset =
    .next (withRegs { ResultRegs.reset with hdrJseTag := 2#2, hdrIntensity := true }) := rfl

theorem test_row_error : execEmphasisReserved (withRegs (codes 3#2 1#2)) =
    .next (withRegs { ResultRegs.reset with outValid := true, outStatus := 6#4 }) := rfl

/-- FLEN writes the length registers only. -/
theorem test_exec_flen : execFlen recordA (withRegs (codes 3#2 1#2)) =
    .next (withRegs { codes 3#2 1#2 with lenStatus := 0#2, lenBytes := 24#16 }) := rfl

theorem test_exec_flen_invalid : execFlen { recordA with sampleRateHz := 44100 } State.reset =
    .refused .invalidRecord := rfl

/-! The scanner, one transition at a time (45_host_stream_scanner section 2). -/

/-- The bytes of frame A (95_test_vectors part 4). -/
def bytesA : List Byte := [0xFF, 0xF3, 0x14, 0x00] ++ List.replicate 20 0

/-- A machine whose scanner holds some bytes at the cursor 0, in Seeking. -/
def seeking (bytes : List Byte) (ended : Bool) : State :=
  { State.reset with host := { Scanner.start [] true with received := bytes, endOfInput := ended } }

/-- A machine whose scanner has presented the first window of some bytes. -/
def validating (bytes : List Byte) (w : Word) (ended : Bool) : State :=
  { State.reset with
    pins := .present w
    host := { Scanner.start [] true with
      phase := .validating 0 w none, received := bytes, endOfInput := ended } }

/-- A machine whose scanner holds frame A's header and length while it waits for the rest of its bytes. -/
def resumed (bytes : List Byte) (ended : Bool) : State :=
  { State.reset with
    host := { Scanner.start [] true with
      phase := .validating 0 0xFFF31400#32 (some ⟨recordA, 24⟩), received := bytes, endOfInput := ended } }

/-- A machine with decisions of its caller queued. -/
def deciding (s : State) (decisions : List Bool) : State := { s with host := { s.host with pulls := decisions } }

theorem test_seek_skips : hostAfter (seeking [0x00, 0xFF, 0xF3, 0x14] true) =
    some { (seeking [0x00, 0xFF, 0xF3, 0x14] true).host with cursor := 1, bytesConsumed := 1 } := by decide

theorem test_seek_attempts : (hostAfter (seeking bytesA true)).map (fun h => h.phase) =
    some (.validating 0 0xFFF31400#32 none) := by decide

theorem test_validate_frame : (hostAfter (validating bytesA 0xFFF31400#32 true)).map
      (fun h => (h.phase, h.cursor, h.bytesConsumed, h.frames)) =
    some (.seeking, 24, 24, [⟨0, recordA, 4, 24⟩]) := by decide

/-- P4: end-of-input before the declared length. -/
theorem test_validate_truncated : (hostAfter (validating bytesA.dropLast 0xFFF31400#32 true)).map
      (fun h => (h.phase, h.frames)) = some (.resyncing 0 .truncatedPayload, []) := by decide

theorem test_validate_free_bit_rate : (hostAfter (validating [0xFF, 0xFB, 0x00, 0x64] 0xFFFB0064#32 false)).map
      (fun h => h.phase) = some (.resyncing 0 (.length .undefinedFrameLength)) := by decide

/-- R180: the frame is appended when its last byte is there, from the header and length held meanwhile. -/
theorem test_resume_frame : (hostAfter (resumed bytesA true)).map (fun h => (h.phase, h.cursor, h.frames)) =
    some (.seeking, 24, [⟨0, recordA, 4, 24⟩]) := by decide

/-- R181: the caller stops at a Seeking boundary, where a window with sync waits, and nothing is consumed. -/
theorem test_caller_stops : (hostAfter (deciding (seeking bytesA true) [false, true])).map
      (fun h => (h.phase, h.pulling, h.pulls, h.bytesConsumed)) = some (.seeking, false, [true], 0) := by decide

/-- R181: a decision waits while a frame is under way. -/
theorem test_caller_waits_for_boundary : (hostAfter (deciding (validating bytesA 0xFFF31400#32 true) [false])).map
      (fun h => (h.phase, h.pulling, h.pulls)) = some (.seeking, true, [false]) := by decide

/-- R241: a queued word is at the ports at the next edge, not the scanner's window. -/
theorem test_queued_word_first : portsAfter { seeking bytesA true with inputs := [.present 0xFFFB90E3#32] } =
    some (.present 0xFFFB90E3#32) := by decide

/-- R184: with none queued, the window found is. -/
theorem test_scanner_presents_window : portsAfter (seeking bytesA true) = some (.present 0xFFF31400#32) := by decide

/-- P1: two frames A back to back. -/
theorem test_frames_back_to_back : framesOf (bytesA ++ bytesA) = [⟨0, recordA, 4, 24⟩, ⟨24, recordA, 28, 48⟩] := by
  decide

/-! The textual form (30_encoding R80). -/

theorem test_text_hdec : (Instr.hdec (fieldsOf 0xFFFB90E3#32)).text = "HDEC 0xFFFB90E3" := by decide

theorem test_text_row : Instr.versionMpeg25.text = "version.MPEG2_5" := by decide

/-! Witnesses: for each statement with hypotheses, a state and operands that meet them. -/

theorem witness_ResetEdgeWritesResetValues : ({ fed 0xFFFB90E3 with pins := ⟨true, true, 0xFFFB90E3⟩ } : State).pins.rst =
    true := by decide

theorem witness_IdleEdgeClearsOnlyOutValid : State.reset.pins.rst = false ∧ State.reset.pins.inValid = false := by decide

theorem witness_StepRunsDecodedInstruction :
    (fed 0xFFFB90E3).pins.rst = false ∧ (fed 0xFFFB90E3).pins.inValid = true ∧
    decode (bytesOfWord (fed 0xFFFB90E3).pins.inWord) = .ok (.hdec (fieldsOf 0xFFFB90E3#32), []) ∧
    decode (bytesOfWord (fed 0xFFE00000).pins.inWord) = .ok (.layerReserved, []) := by decide

/-- Two states with one word and different registers. -/
theorem witness_ResultIndependentOfHistory :
    let s := fed 0xFFFB90E3
    let s' := (withRegs (codes 3#2 2#2)).withFetchWord 32 0xFFFB90E3
    s.pins = s'.pins ∧ s.pins.rst = false ∧ s.pins.inValid = true ∧ s.regs ≠ s'.regs := by decide

theorem witness_HdecWritesHeaderOrError :
    hdec Config.roms (fieldsOf 0xFFFB90E3#32) = .ok recordS1a ∧
    hdec Config.roms (fieldsOf 0#32) = .error .syncWordMissing ∧
    hdec Config.roms (fieldsOf 0xFFFDD0C4#32) = .error .prohibitedBitrateChannelCombination := by decide

theorem witness_PortCodesReadBack : recordS1a.valid Config.roms = true ∧ recordA.valid Config.roms = true := by decide

/-- The clauses of the assembly: index 0, 1 and 14; no joint stereo; joint stereo in Layers II and III. -/
theorem witness_HdecAssemblesEveryField :
    (∃ h, hdec Config.roms (fieldsOf 0xFFFB0064#32) = .ok h ∧ (fieldsOf 0xFFFB0064#32).bitrateIdx = 0#4 ∧
      h.channelMode = .jointStereo ∧ h.layer = .layerIII) ∧
    (∃ h, hdec Config.roms (fieldsOf 0xFFFF1000#32) = .ok h ∧ (fieldsOf 0xFFFF1000#32).bitrateIdx = 1#4 ∧
      h.channelMode ≠ .jointStereo) ∧
    (∃ h, hdec Config.roms (fieldsOf 0xFFFDE040#32) = .ok h ∧ (fieldsOf 0xFFFDE040#32).bitrateIdx = 14#4 ∧
      h.channelMode = .jointStereo ∧ h.layer ≠ .layerIII) :=
  ⟨⟨_, rfl, by decide⟩, ⟨_, rfl, by decide⟩, ⟨_, rfl, by decide⟩⟩

/-- ROM contents other than the defaults that the source's facts admit (41_lookup_tables R138). -/
def otherRoms : Roms where
  bitrate idx col := if idx = 0 then 0 else if col = 2 then 128000 else 320000
  sampleRate sidx vcol := if vcol = 0 then 44100 else if vcol = 1 then 22050 else 11025
  spf lrow vcol := BitVec.ofNat 11 samplesPerFrame[lrow][vcol]

theorem otherRoms_admissible : otherRoms.Admissible :=
  ⟨by decide, ⟨1, by decide⟩, ⟨1, by decide⟩, by decide, by decide, by decide, by decide⟩

theorem witness_HdecReturnsValidHeader : otherRoms.Admissible ∧ ∃ h, hdec otherRoms (fieldsOf 0xFFFB90E3#32) = .ok h :=
  ⟨otherRoms_admissible, _, rfl⟩

theorem witness_FrameLengthEquivalentForm : otherRoms.Admissible := otherRoms_admissible

/-- A pair of equal records from different words, and a pair of different records. -/
theorem witness_EqualRecordsFromWords :
    (∃ h h', hdec Config.roms (fieldsOf 0xFFFB90C0#32) = .ok h ∧ hdec Config.roms (fieldsOf 0xFFFB90F0#32) = .ok h' ∧
      h = h') ∧
    (∃ h h', hdec Config.roms (fieldsOf 0xFFFB9040#32) = .ok h ∧ hdec Config.roms (fieldsOf 0xFFFB9070#32) = .ok h' ∧
      h ≠ h') :=
  ⟨⟨_, _, rfl, rfl, by decide⟩, ⟨_, _, rfl, rfl, by decide⟩⟩

theorem witness_FlenComputesFrameLength :
    ({ recordS1a with bitRateBps := 0 } : FrameHeader).valid Config.roms = true ∧
    recordS1a.valid Config.roms = true ∧ recordS1a.bitRateBps ≠ 0 ∧
    hdec Config.roms (fieldsOf 0xFFFB90E3#32) = .ok recordS1a := by decide

theorem witness_FlenRefusesInvalidRecord : ({ recordA with sampleRateHz := 44100 } : FrameHeader).valid Config.roms = false := by
  decide

theorem witness_FrameLengthRange : recordA.valid Config.roms = true ∧ recordA.bitRateBps ≠ 0 := by decide

theorem witness_FrameLengthMonotonicInBitRate : 112000 ≤ 128000 ∧
    flen Config.roms { recordS1a with bitRateBps := 112000 } = .ok 365 ∧
    flen Config.roms { recordS1a with bitRateBps := 128000 } = .ok 417 := by decide

theorem witness_LengthArithmeticFitsWidths : recordA.valid Config.roms = true := by decide

/-- Each code of steps 2 and 3, on words that reach the step. -/
theorem witness_VersionAndLayerStepsClassifyCodes :
    (fieldsOf 0xFFEFFFFF#32).sync = 0x7FF#11 ∧ (fieldsOf 0xFFEFFFFF#32).version = 0b01#2 ∧
    (fieldsOf 0xFFF00000#32).sync = 0x7FF#11 ∧ (fieldsOf 0xFFF00000#32).version ≠ 0b01#2 ∧
    (fieldsOf 0xFFF00000#32).layer = 0b00#2 ∧
    (∃ h, hdec Config.roms (fieldsOf 0xFFE31400#32) = .ok h ∧ h.version = .mpeg25 ∧ h.layer = .layerIII) ∧
    (∃ h, hdec Config.roms (fieldsOf 0xFFF5A5A5#32) = .ok h ∧ h.version = .mpeg2 ∧ h.layer = .layerII) ∧
    (∃ h, hdec Config.roms (fieldsOf 0xFFFF1000#32) = .ok h ∧ h.version = .mpeg1 ∧ h.layer = .layerI) :=
  ⟨by decide, by decide, by decide, by decide, by decide, ⟨_, rfl, by decide⟩, ⟨_, rfl, by decide⟩, ⟨_, rfl, by decide⟩⟩

/-- Accepted words with each mode and emphasis, and fields that reach step 10 with emphasis 10. -/
theorem witness_ProtectionFlagsModeAndEmphasisFollowTheirBits :
    (∃ h, hdec Config.roms (fieldsOf 0xFFFFE7FD#32) = .ok h ∧ h.emphasis = .ms5015 ∧ h.channelMode = .singleChannel) ∧
    (∃ h, hdec Config.roms (fieldsOf 0xFFFB9080#32) = .ok h ∧ h.emphasis = .none ∧ h.channelMode = .dualChannel) ∧
    (∃ h, hdec Config.roms (fieldsOf 0xFFFB9043#32) = .ok h ∧ h.emphasis = .ccitJ17 ∧ h.channelMode = .jointStereo) ∧
    (∃ h, hdec Config.roms (fieldsOf 0xFFFE1200#32) = .ok h ∧ h.hasCrc = true ∧ h.channelMode = .stereo) ∧
    (let f := fieldsOf 0xFFFB90E2#32
     f.sync = 0x7FF#11 ∧ f.version ≠ 0b01#2 ∧ f.layer ≠ 0b00#2 ∧ f.bitrateIdx ≠ 0b1111#4 ∧ f.srateIdx ≠ 0b11#2 ∧
      f.emphasis = 0b10#2) :=
  ⟨⟨_, rfl, by decide⟩, ⟨_, rfl, by decide⟩, ⟨_, rfl, by decide⟩, ⟨_, rfl, by decide⟩, by decide⟩

theorem witness_JointStereoExtensionFollowsModeAndLayer :
    (∃ h, hdec Config.roms (fieldsOf 0xFFFB90F0#32) = .ok h ∧ (0xFFFB90F0#32).extractLsb' 6 2 ≠ 0b01#2) ∧
    (∃ h, hdec Config.roms (fieldsOf 0xFFFF9040#32) = .ok h ∧ (0xFFFF9040#32).extractLsb' 6 2 = 0b01#2 ∧
      (0xFFFF9040#32).extractLsb' 17 2 ≠ 0b01#2 ∧ (0xFFFF9040#32).extractLsb' 4 2 = 0b00#2) ∧
    (∃ h, hdec Config.roms (fieldsOf 0xFFFD9050#32) = .ok h ∧ (0xFFFD9050#32).extractLsb' 6 2 = 0b01#2 ∧
      (0xFFFD9050#32).extractLsb' 17 2 ≠ 0b01#2 ∧ (0xFFFD9050#32).extractLsb' 4 2 = 0b01#2) ∧
    (∃ h, hdec Config.roms (fieldsOf 0xFFFD9060#32) = .ok h ∧ (0xFFFD9060#32).extractLsb' 4 2 = 0b10#2) ∧
    (∃ h, hdec Config.roms (fieldsOf 0xFFFF9070#32) = .ok h ∧ (0xFFFF9070#32).extractLsb' 4 2 = 0b11#2) ∧
    (∃ h, hdec Config.roms (fieldsOf 0xFFFB9070#32) = .ok h ∧ (0xFFFB9070#32).extractLsb' 6 2 = 0b01#2 ∧
      (0xFFFB9070#32).extractLsb' 17 2 = 0b01#2) :=
  ⟨⟨_, rfl, by decide⟩, ⟨_, rfl, by decide⟩, ⟨_, rfl, by decide⟩, ⟨_, rfl, by decide⟩, ⟨_, rfl, by decide⟩,
    ⟨_, rfl, by decide⟩⟩

theorem witness_LayerIICheckRejectsTheListedPairs :
    decodeBitrate Config.roms .mpeg1 .layerII 14#4 = .ok 384000 ∧
    decodeBitrate Config.roms .mpeg25 .layerII 9#4 = .ok 80000 ∧
    decodeBitrate Config.roms .mpeg1 .layerII 0#4 = .ok 0 ∧
    hdec Config.roms (fieldsOf 0xFFFDD0C4#32) = .error .prohibitedBitrateChannelCombination := by decide

theorem witness_BitrateRowsReadTheTable :
    (withRegs (codes 3#2 3#2)).regs.hdrVersion = versionCode .mpeg1 ∧
    (withRegs (codes 3#2 3#2)).regs.hdrLayer = layerCode .layerI ∧
    (withRegs (codes 0#2 1#2)).regs.hdrVersion = versionCode .mpeg25 ∧
    (withRegs (codes 0#2 1#2)).regs.hdrLayer = layerCode .layerIII := by decide

theorem witness_SampleRateRowsReadTheTable : (withRegs (codes 2#2 0#2)).regs.hdrVersion = versionCode .mpeg2 := by decide

theorem witness_RateRowsFaultWithoutColumn :
    (withRegs (codes 1#2 3#2)).regs.hdrVersion = 1#2 ∧ (withRegs (codes 3#2 0#2)).regs.hdrLayer = 0#2 := by decide

theorem witness_RowsInOrderGiveHdec :
    (fieldsOf 0xFFFB90E3#32).sync = 0x7FF#11 ∧ hdec Config.roms (fieldsOf 0xFFFB90E3#32) = .ok recordS1a ∧
    (fieldsOf 0xFFFDD0C4#32).sync = 0x7FF#11 ∧
    hdec Config.roms (fieldsOf 0xFFFDD0C4#32) = .error .prohibitedBitrateChannelCombination := by decide

theorem witness_RowPatternsSelectRows :
    syncOk 0xFFE00000#32 = true ∧ Instr.versionMpeg25.decodeStep = some .version ∧
    Instr.l2checkMpeg25Rate80kDualChannel.decodeStep = some .layerII := by decide

theorem witness_DecodeEncodeRoundTrip :
    Instr.layerReserved.wf = true ∧ Instr.layerReserved.raises.isSome = true ∧
    (Instr.hdec (fieldsOf 0xFFFB90E3#32)).wf = true ∧ Instr.padding1.decodeStep.isSome = true := by decide

theorem witness_FlenWordDecodesToRecord : (Instr.flen recordA).wf = true := by decide

theorem witness_HeaderWordIsBigEndian : ([] : List Byte).length < 4 ∧ ([0xFF, 0xFB, 0xB0] : List Byte).length < 4 := by decide

theorem witness_RomReadsAreTheListedOnes :
    (∃ h, hdec Config.roms (fieldsOf 0xFFFB0064#32) = .ok h ∧ (fieldsOf 0xFFFB0064#32).bitrateIdx = 0#4 ∧ h.bitRateBps = 0) ∧
    (∃ h, hdec Config.roms (fieldsOf 0xFFFB90E3#32) = .ok h ∧ (fieldsOf 0xFFFB90E3#32).bitrateIdx ≠ 0#4 ∧
      h.bitRateBps ≠ 0) :=
  ⟨⟨_, rfl, by decide⟩, ⟨_, rfl, by decide⟩⟩

/-- The unpopulated ends of each address field. -/
theorem witness_MemReadIsDefinedOnPopulatedEntries :
    (15#4 = 15#4 ∨ 5 ≤ (0#3).toNat) ∧ (0#4 = 15#4 ∨ 5 ≤ (5#3).toNat) ∧ (0#4 = 15#4 ∨ 5 ≤ (7#3).toNat) ∧
    (3#2 = 3#2 ∨ 0#2 = 3#2) ∧ (0#2 = 3#2 ∨ 3#2 = 3#2) := by decide

/-- The invariant in a state that awaits a result. -/
theorem validating_inv {bytes : List Byte} {w : Word} (ended : Bool) (hw : windowAt bytes 0 = some w)
    (hs : syncOk w = true) : (validating bytes w ended).Inv where
  regs := ⟨by simp [validating, State.reset, ResultRegs.reset], by simp [validating, State.reset, ResultRegs.reset],
    by simp [validating, State.reset, ResultRegs.reset], by simp [validating, State.reset, ResultRegs.reset]⟩
  host := ⟨rfl, Nat.zero_le _, List.Pairwise.nil, by simp [validating, Scanner.start], fun _ => ⟨rfl, rfl⟩,
    ⟨rfl, hw, hs, by simp⟩⟩
  driven := fun _ => rfl

theorem witness_StepKeepsInvariant : (validating bytesA 0xFFF31400#32 true).Inv ∧
    ∃ t, step (validating bytesA 0xFFF31400#32 true) = .next t :=
  ⟨validating_inv true (by decide) (by decide), _, rfl⟩

theorem witness_ExecTouchesOnlyResultRegisters : ∃ t, exec .layerIII State.reset = .next t := ⟨_, rfl⟩

/-- Both clauses: a window without sync and a window with it. -/
theorem witness_SeekingSkipsOrAttempts :
    (let s := seeking [0x00, 0xFF, 0xF3, 0x14] true
     s.driver = .scanner ∧ s.host.phase = .seeking ∧ s.host.ask.pulling = true ∧
      windowAt s.host.received s.host.cursor = some 0x00FFF314#32 ∧ 0x00FFF314#32 &&& 0xFFE00000#32 ≠ 0xFFE00000#32) ∧
    (let s := seeking bytesA true
     s.driver = .scanner ∧ s.host.phase = .seeking ∧ s.host.ask.pulling = true ∧ s.inputs = [] ∧
      windowAt s.host.received s.host.cursor = some 0xFFF31400#32 ∧
      0xFFF31400#32 &&& 0xFFE00000#32 = 0xFFE00000#32) := by decide

/-- No byte, and three bytes; ended and not. -/
theorem witness_ShortTailFinishesOrSuspends :
    (let s := seeking [0xFF, 0xF3, 0x14] true
     s.driver = .scanner ∧ s.host.phase = .seeking ∧ s.host.ask.pulling = true ∧
      s.host.received.length < s.host.cursor + 4 ∧ s.host.endOfInput = true) ∧
    (let s := seeking [] false
     s.driver = .scanner ∧ s.host.phase = .seeking ∧ s.host.ask.pulling = true ∧
      s.host.received.length < s.host.cursor + 4 ∧ s.host.endOfInput = false) := by decide

/-- A header error, the free bit rate, a frame that fits exactly, one byte too few at the end and before it. -/
theorem witness_ValidatingActsOnTheDecodedWindow :
    ((validating [0xFF, 0xE0, 0x00, 0x00] 0xFFE00000#32 true).Inv ∧
      hdec Config.roms (fieldsOf 0xFFE00000#32) = .error .reservedLayer) ∧
    ((validating [0xFF, 0xFB, 0x00, 0x64] 0xFFFB0064#32 true).Inv ∧
      ∃ h, hdec Config.roms (fieldsOf 0xFFFB0064#32) = .ok h ∧ h.bitRateBps = 0) ∧
    ((validating bytesA 0xFFF31400#32 true).Inv ∧ hdec Config.roms (fieldsOf 0xFFF31400#32) = .ok recordA ∧
      flen Config.roms recordA = .ok 24 ∧ 0 + 24 ≤ bytesA.length) ∧
    ((validating bytesA.dropLast 0xFFF31400#32 true).Inv ∧ bytesA.dropLast.length < 0 + 24) ∧
    ((validating bytesA.dropLast 0xFFF31400#32 false).Inv ∧
      (validating bytesA.dropLast 0xFFF31400#32 false).driver = .scanner) :=
  ⟨⟨validating_inv true (by decide) (by decide), by decide⟩,
    ⟨validating_inv true (by decide) (by decide), _, rfl, by decide⟩,
    ⟨validating_inv true (by decide) (by decide), by decide, by decide, by decide⟩,
    ⟨validating_inv true (by decide) (by decide), by decide⟩,
    ⟨validating_inv false (by decide) (by decide), by decide⟩⟩

theorem witness_ResyncingAdvancesOneByte :
    ∃ s : State, s.driver = .scanner ∧ s.host.phase = .resyncing 0 .truncatedPayload :=
  ⟨{ seeking bytesA true with host := { (seeking bytesA true).host with phase := .resyncing 0 .truncatedPayload } },
    rfl, rfl⟩

/-- A caller that has stopped, a scanner that is done, and both decisions at a boundary. -/
theorem witness_CancelledScannerHoldsAtBoundary :
    (∃ s : State, s.host.phase = .seeking ∧ s.host.pulls = [] ∧ s.host.pulling = false) ∧
    (∃ s : State, s.host.phase = .done) ∧
    (let s := deciding (seeking bytesA true) [false, true]
     s.driver = .scanner ∧ s.host.phase = .seeking ∧ s.host.pulls = false :: [true]) ∧
    (let s := deciding (seeking bytesA true) [true]
     s.driver = .scanner ∧ s.host.phase = .seeking ∧ s.host.pulls = true :: []) :=
  ⟨⟨{ seeking bytesA true with host := { (seeking bytesA true).host with pulling := false } }, rfl, rfl, rfl⟩,
    ⟨{ seeking [] true with host := { (seeking [] true).host with phase := .done } }, rfl⟩, by decide, by decide⟩

/-- The frame fits exactly; one byte is missing at end-of-input and before it. -/
theorem witness_ResumedValidatingAppendsFailsOrWaits :
    (let s := resumed bytesA true
     s.driver = .scanner ∧ s.host.phase = .validating 0 0xFFF31400#32 (some ⟨recordA, 24⟩) ∧
      0 + 24 ≤ s.host.received.length) ∧
    (let s := resumed bytesA.dropLast true
     s.driver = .scanner ∧ s.host.received.length < 0 + 24 ∧ s.host.endOfInput = true) ∧
    (let s := resumed bytesA.dropLast false
     s.driver = .scanner ∧ s.host.received.length < 0 + 24 ∧ s.host.endOfInput = false ∧ s.inputs = []) := by decide

/-- A queued word, no queued word with a window found and without one, and both drivers. -/
theorem witness_PortsTakeQueuedInputsFirst :
    (∃ s : State, s.inputs = Pins.present 0xFFFB90E3#32 :: []) ∧
    (State.reset.inputs = [] ∧ ∃ t, step (seeking bytesA true) = .next t ∧
      t.host.phase = .validating 0 0xFFF31400#32 none) ∧
    (∃ t, step State.reset = .next t ∧ t.host.phase = .seeking) ∧
    (fed 0xFFFB90E3).driver = .outside ∧ State.reset.driver = .scanner :=
  ⟨⟨{ State.reset with inputs := [.present 0xFFFB90E3#32] }, rfl⟩, ⟨rfl, _, rfl, rfl⟩, ⟨_, rfl, rfl⟩, rfl, rfl⟩

/-- A caller that stops and resumes, before end-of-input and before silence. -/
theorem witness_CallerMayStopAtAnyBoundary :
    (let s : State := { State.reset with host := { Scanner.start [bytesA] true with pulling := false, pulls := [true, false, true] } }
     s.pins = Pins.idle ∧ s.driver = .scanner ∧ s.inputs = [] ∧ [true, false, true].getLastD false = true) ∧
    (let s : State := { State.reset with host := { Scanner.start [bytesA] false with pulling := true, pulls := [false] } }
     s.pins = Pins.idle ∧ s.driver = .scanner ∧ s.inputs = []) ∧
    ([] : List Bool).getLastD true = true := by decide

/-- The machine at the start of a parse. -/
def atStart (reads : List (List Byte)) : State := { State.reset with host := Scanner.start reads true }

theorem witness_ScannerParsesWholeStream : ParseStart (atStart [[], bytesA]) [[], bytesA] := ⟨rfl, rfl, rfl, rfl⟩

/-- Frame A as bytes. -/
def frameA : FrameBytes where
  word := 0xFFF31400#32
  sample := ⟨recordA, 24⟩
  body := List.replicate 20 0
  accepted := by decide
  full := by decide

/-- Two frames in three reads that split them anywhere, and no frame at all. -/
theorem witness_WellFormedFramesRoundTrip :
    (ParseStart (atStart [bytesA.take 3, bytesA.drop 3 ++ bytesA.take 10, bytesA.drop 10])
        [bytesA.take 3, bytesA.drop 3 ++ bytesA.take 10, bytesA.drop 10] ∧
      [bytesA.take 3, bytesA.drop 3 ++ bytesA.take 10, bytesA.drop 10].flatten =
        [frameA, frameA].flatMap FrameBytes.bytes) ∧
    (ParseStart (atStart []) [] ∧ ([] : List (List Byte)).flatten = ([] : List FrameBytes).flatMap FrameBytes.bytes) :=
  ⟨⟨⟨rfl, rfl, rfl, rfl⟩, by decide⟩, ⟨rfl, rfl, rfl, rfl⟩, rfl⟩

/-- Frame A, two garbage bytes, frame A: neither garbage window decodes. -/
theorem witness_GarbageBetweenFramesIsSkipped :
    ParseStart (atStart [bytesA ++ [0x00, 0xFF] ++ bytesA]) [bytesA ++ [0x00, 0xFF] ++ bytesA] ∧
    [bytesA ++ [0x00, 0xFF] ++ bytesA].flatten = frameA.bytes ++ [0x00, 0xFF] ++ frameA.bytes ∧
    ∀ p w x, frameA.sample.length ≤ p → p < frameA.sample.length + ([0x00, 0xFF] : List Byte).length →
      windowAt [bytesA ++ [0x00, 0xFF] ++ bytesA].flatten p = some w → sampleOf w = some x →
      [bytesA ++ [0x00, 0xFF] ++ bytesA].flatten.length < p + x.length := by
  refine ⟨⟨rfl, rfl, rfl, rfl⟩, by decide, ?_⟩
  intro p w x h1 h2 hw hx
  have hp : p = 24 ∨ p = 25 := by
    have h3 : frameA.sample.length = 24 := rfl
    simp only [h3, List.length_cons, List.length_nil] at h1 h2
    omega
  have hn : ∀ q, q = 24 ∨ q = 25 →
      (windowAt [bytesA ++ [0x00, 0xFF] ++ bytesA].flatten q).bind sampleOf = none := by
    rintro q (rfl | rfl) <;> decide
  have := hn p hp
  rw [hw] at this
  simp [hx] at this

end Sys2Proof.Tests
end

section
/-! What the edge without a word leaves in the result registers (10_state R30). -/

namespace Sys2Proof.Machine

@[simp] theorem idleEdge_regs (s : State) : (idleEdge s).regs = { s.regs with outValid := false } := rfl

/-- Settles O3: without a word the step is the idle edge, and the time between two edges writes no result register. -/
theorem idleEdgeClearsOnlyOutValid : Obligations.IdleEdgeClearsOnlyOutValid := by
  intro s hrst hvalid
  have hstep : step s = .next (betweenEdges (idleEdge s)) :=
    step_of_clockEdge (clockEdge_idle hrst hvalid)
  exact ⟨_, hstep, by rw [betweenEdges_regs, idleEdge_regs]⟩

end Sys2Proof.Machine
end


section
/-! How four stream bytes make the header word, and how `decode` reads them (20_memory R40). -/

namespace Sys2Proof

/-- The configured byte order is big-endian (R40): the first byte is the most significant. -/
theorem wordOfBytes_eq_append (b0 b1 b2 b3 : Byte) : wordOfBytes b0 b1 b2 b3 = b0 ++ b1 ++ b2 ++ b3 := rfl

theorem toNat_append_eq_mul_add {m n : Nat} (x : BitVec m) (y : BitVec n) :
    (x ++ y).toNat = x.toNat * 2 ^ n + y.toNat := by
  rw [BitVec.toNat_append, ← Nat.shiftLeft_add_eq_or_of_lt y.isLt, Nat.shiftLeft_eq]

theorem wordOfBytes_toNat (b0 b1 b2 b3 : Byte) :
    (wordOfBytes b0 b1 b2 b3).toNat = b0.toNat * 2 ^ 24 + b1.toNat * 2 ^ 16 + b2.toNat * 2 ^ 8 + b3.toNat := by
  calc (wordOfBytes b0 b1 b2 b3).toNat
    _ = (b0 ++ b1 ++ b2 ++ b3).toNat := rfl
    _ = ((b0.toNat * 2 ^ 8 + b1.toNat) * 2 ^ 8 + b2.toNat) * 2 ^ 8 + b3.toNat := by
      rw [toNat_append_eq_mul_add, toNat_append_eq_mul_add, toNat_append_eq_mul_add]
    _ = b0.toNat * 2 ^ 24 + b1.toNat * 2 ^ 16 + b2.toNat * 2 ^ 8 + b3.toNat := by ring

/-- Each byte slice skips the bytes appended after it and takes the low byte of what is left. -/
@[simp] theorem bytesOfWord_wordOfBytes (b0 b1 b2 b3 : Byte) :
    bytesOfWord (wordOfBytes b0 b1 b2 b3) = [b0, b1, b2, b3] := by
  have byte0 : (b0 ++ b1 ++ b2 ++ b3).extractLsb' 24 8 = b0 := by
    rw [BitVec.extractLsb'_append_eq_of_le (by decide), BitVec.extractLsb'_append_eq_of_le (by decide)]
    exact BitVec.extractLsb'_append_eq_left
  have byte1 : (b0 ++ b1 ++ b2 ++ b3).extractLsb' 16 8 = b1 := by
    rw [BitVec.extractLsb'_append_eq_of_le (by decide), BitVec.extractLsb'_append_eq_of_le (by decide)]
    exact BitVec.extractLsb'_append_eq_right
  have byte2 : (b0 ++ b1 ++ b2 ++ b3).extractLsb' 8 8 = b2 := by
    rw [BitVec.extractLsb'_append_eq_of_le (by decide)]
    exact BitVec.extractLsb'_append_eq_right
  have byte3 : (b0 ++ b1 ++ b2 ++ b3).extractLsb' 0 8 = b3 :=
    BitVec.extractLsb'_append_eq_right
  simp only [bytesOfWord, wordOfBytes_eq_append, byte0, byte1, byte2, byte3]

@[simp] theorem decode_four_bytes (b0 b1 b2 b3 : Byte) (rest : List Byte) :
    decode (b0 :: b1 :: b2 :: b3 :: rest) = .ok (decodeWord (wordOfBytes b0 b1 b2 b3), rest) := rfl

theorem decode_of_length_lt_four : ∀ bytes : List Byte, bytes.length < 4 → decode bytes = .error .shortWindow
  | [], _ | [_], _ | [_, _], _ | [_, _, _], _ => rfl
  | _ :: _ :: _ :: _ :: rest, h => by
    simp only [List.length_cons] at h
    omega

/-- Settles O40: the value and the byte slices of a big-endian append, the two cases of `decode`, and the example of R40. -/
theorem headerWordIsBigEndian : Obligations.HeaderWordIsBigEndian :=
  ⟨fun b0 b1 b2 b3 => ⟨wordOfBytes_toNat b0 b1 b2 b3, bytesOfWord_wordOfBytes b0 b1 b2 b3,
      decode_four_bytes b0 b1 b2 b3 []⟩,
    decode_of_length_lt_four,
    by decide⟩

end Sys2Proof
end

section
/-! The sync test of the first eleven bits, on the word, on its top twelve bits and on its bytes (30_encoding R61). -/

namespace Sys2Proof

theorem append_eq_append_iff {m n : Nat} {x x' : BitVec m} {y y' : BitVec n} :
    x ++ y = x' ++ y' ↔ x = x' ∧ y = y' := by
  constructor
  · intro h
    have high := congrArg (BitVec.extractLsb' n m) h
    have low := congrArg (BitVec.extractLsb' 0 n) h
    rw [BitVec.extractLsb'_append_eq_left, BitVec.extractLsb'_append_eq_left] at high
    rw [BitVec.extractLsb'_append_eq_right, BitVec.extractLsb'_append_eq_right] at low
    exact ⟨high, low⟩
  · rintro ⟨rfl, rfl⟩
    rfl

/-- The idea of all three forms: a mask of `m` ones over `n` zeros keeps the high bits and clears the low ones, so the test
against it is a test of the high slice. -/
theorem and_highMask_eq_iff {m n : Nat} (x : BitVec (m + n)) :
    x &&& (BitVec.allOnes m ++ 0#n) = BitVec.allOnes m ++ 0#n ↔ x.extractLsb' n m = BitVec.allOnes m := by
  have masked : x &&& (BitVec.allOnes m ++ 0#n) = x.extractLsb' n m ++ 0#n := by
    calc x &&& (BitVec.allOnes m ++ 0#n)
      _ = (x.extractLsb' n m ++ x.extractLsb' 0 n) &&& (BitVec.allOnes m ++ 0#n) := by
        rw [BitVec.extractLsb'_append_extractLsb']
      _ = x.extractLsb' n m ++ 0#n := by
        rw [BitVec.and_append, BitVec.and_allOnes, BitVec.and_zero]
  rw [masked, BitVec.append_left_inj]

theorem syncOk_iff (w : Word) : syncOk w = true ↔ w.extractLsb' 21 11 = 0x7FF#11 :=
  beq_iff_eq.trans (and_highMask_eq_iff (m := 11) (n := 21) w)

/-- R61's form on the top twelve bits: the lowest of them, bit 20, is masked away. -/
theorem topTwelve_and_mask_iff (w : Word) :
    w.extractLsb' 20 12 &&& 0xFFE#12 = 0xFFE#12 ↔ w.extractLsb' 21 11 = 0x7FF#11 := by
  have slice : (w.extractLsb' 20 12).extractLsb' 1 11 = w.extractLsb' 21 11 := by
    rw [← BitVec.extractLsb'_append_extractLsb'_eq_extractLsb' (x := w) (start₂ := 21) (len₂ := 11) (len₁ := 1) rfl]
    exact BitVec.extractLsb'_append_eq_left
  rw [← slice]
  exact and_highMask_eq_iff (m := 11) (n := 1) (w.extractLsb' 20 12)

/-- The sync field of four stream bytes: the first byte and the top three bits of the second. -/
theorem wordOfBytes_sync (b0 b1 b2 b3 : Byte) :
    (wordOfBytes b0 b1 b2 b3).extractLsb' 21 11 = b0 ++ b1.extractLsb' 5 3 := by
  calc (wordOfBytes b0 b1 b2 b3).extractLsb' 21 11
    _ = (b0 ++ b1).extractLsb' 5 11 := by
      rw [wordOfBytes_eq_append, BitVec.extractLsb'_append_eq_of_le (by decide),
        BitVec.extractLsb'_append_eq_of_le (by decide)]
    _ = (b0 ++ b1).extractLsb' 8 8 ++ (b0 ++ b1).extractLsb' 5 3 :=
      (BitVec.extractLsb'_append_extractLsb'_eq_extractLsb' (start₁ := 5) (len₁ := 3) (len₂ := 8) rfl).symm
    _ = b0 ++ b1.extractLsb' 5 3 := by
      rw [BitVec.extractLsb'_append_eq_left, BitVec.extractLsb'_append_eq_of_add_le (by decide)]

theorem syncOk_wordOfBytes_iff (b0 b1 b2 b3 : Byte) :
    syncOk (wordOfBytes b0 b1 b2 b3) = true ↔ b0 = 0xFF#8 ∧ b1 &&& 0xE0#8 = 0xE0#8 := by
  have second : b1 &&& 0xE0#8 = 0xE0#8 ↔ b1.extractLsb' 5 3 = 0b111#3 :=
    and_highMask_eq_iff (m := 3) (n := 5) b1
  rw [syncOk_iff, wordOfBytes_sync, second]
  exact append_eq_append_iff (x' := 0xFF#8) (y' := 0b111#3)

theorem syncOk_flip_bit20 (w : Word) : syncOk (w ^^^ 0x00100000#32) = syncOk w := by
  have slice : (w ^^^ 0x00100000#32).extractLsb' 21 11 = w.extractLsb' 21 11 := by
    rw [BitVec.extractLsb'_xor, show (0x00100000#32).extractLsb' 21 11 = 0#11 from rfl, BitVec.xor_zero]
  rw [Bool.eq_iff_iff, syncOk_iff, syncOk_iff, slice]

/-- Settles O41: each form is the test that the slice 31:21 is all ones. -/
theorem syncTestForms : Obligations.SyncTestForms :=
  ⟨fun w => ⟨syncOk_iff w, (syncOk_iff w).trans (topTwelve_and_mask_iff w).symm⟩, syncOk_wordOfBytes_iff,
    syncOk_flip_bit20⟩

end Sys2Proof
end

section
/-! Which field of an accepted word each field of the record follows (30_encoding R67 to R70). -/

namespace Sys2Proof

theorem decodeFlag_bit (w : Word) (i : Nat) : decodeFlag (w.extractLsb' i 1) = w.getLsbD i :=
  (BitVec.getLsbD_eq_extractLsb' w i).symm

theorem decodeProtection_eq_not_decodeFlag (b : BitVec 1) : decodeProtection b = !decodeFlag b := by
  revert b; decide

theorem decodeProtection_bit (w : Word) (i : Nat) : decodeProtection (w.extractLsb' i 1) = !w.getLsbD i := by
  rw [decodeProtection_eq_not_decodeFlag, decodeFlag_bit]

theorem decodeMode_jointStereo_iff {c : BitVec 2} : decodeMode c = .jointStereo ↔ c = 0b01#2 := by
  revert c; decide

theorem decodeLayer_layerIII_iff {c : BitVec 2} {l : Layer} (h : decodeLayer c = .ok l) :
    l = .layerIII ↔ c = 0b01#2 := by
  rw [← decodeLayer_ok h]
  cases l <;> decide

theorem Emphasis.code_injective : Function.Injective Emphasis.code := fun a b h => by
  have decoded := congrArg decodeEmphasis h
  rwa [decodeEmphasis_code, decodeEmphasis_code, Except.ok.injEq] at decoded

theorem Emphasis.code_ne_reserved (e : Emphasis) : e.code ≠ 0b10#2 := by
  cases e <;> decide

theorem decodeEmphasis_ok_ne_reserved {c : BitVec 2} {e : Emphasis} (h : decodeEmphasis c = .ok e) : c ≠ 0b10#2 :=
  decodeEmphasis_ok h ▸ e.code_ne_reserved

theorem decodeModeExt_of_not_joint {m : ChannelMode} (hm : m ≠ .jointStereo) (l : Layer) (x : BitVec 2) :
    decodeModeExt m l x = .absent := by
  cases m with
  | jointStereo => exact absurd rfl hm
  | stereo | dualChannel | singleChannel => rfl

theorem decodeModeExt_band {l : Layer} (hl : l ≠ .layerIII) (x : BitVec 2) :
    decodeModeExt .jointStereo l x = .bandStart (4 * (x.toNat + 1)) := by
  cases l with
  | layerIII => exact absurd rfl hl
  | layerI | layerII => rfl

@[simp] theorem decodeModeExt_layerIII (x : BitVec 2) :
    decodeModeExt .jointStereo .layerIII x = .stereoFlags (x.getLsbD 0) (x.getLsbD 1) := rfl

/-- No step but step 8 reads the mode extension, and step 8 cannot fail (40_header_decoder R109). -/
theorem hdec_modeExt {R : Roms} {f : HeaderFields} {h : FrameHeader} (hd : hdec R f = .ok h) (x : BitVec 2) :
    hdec R { f with modeExt := x } =
      .ok { h with jointStereoExt := decodeModeExt h.channelMode h.layer x } :=
  hdec_ok_iff.2 { hdec_ok_iff.1 hd with jse := rfl }

/-- Settles O21: the extension is `decodeModeExt` of the mode and the layer the word gives, and no other step reads its bits. -/
theorem jointStereoExtensionFollowsModeAndLayer : Obligations.JointStereoExtensionFollowsModeAndLayer := by
  intro w h hd
  have ok := hdec_ok_iff.1 hd
  have joint : h.channelMode = .jointStereo ↔ w.extractLsb' 6 2 = 0b01#2 := by
    rw [ok.mode]
    exact decodeMode_jointStereo_iff
  have three : h.layer = .layerIII ↔ w.extractLsb' 17 2 = 0b01#2 := decodeLayer_layerIII_iff ok.layer
  refine ⟨fun hm => ?absent, fun hm hl => ?band, fun hm hl => ?flags, fun x => ⟨_, hdec_modeExt hd x⟩⟩
  case absent =>
    rw [ok.jse, decodeModeExt_of_not_joint (mt joint.1 hm)]
  case band =>
    have jse : h.jointStereoExt = .bandStart (4 * ((w.extractLsb' 4 2).toNat + 1)) := by
      rw [ok.jse, joint.2 hm, decodeModeExt_band (mt three.1 hl)]
      rfl
    refine ⟨?_, ?_, ?_, ?_⟩ <;> · intro hx; rw [jse, hx]; rfl
  case flags =>
    rw [ok.jse, joint.2 hm, three.2 hl, decodeModeExt_layerIII]
    simp [fieldsOf]

/-- Where steps 1 to 5 pass, step 10 raises on emphasis 10 (40_header_decoder R111, R114). -/
theorem hdec_reservedEmphasis {R : Roms} {f : HeaderFields} (hsync : f.sync = 0x7FF#11)
    (hversion : f.version ≠ 0b01#2) (hlayer : f.layer ≠ 0b00#2) (hbitrate : f.bitrateIdx ≠ 0b1111#4)
    (hsrate : f.srateIdx ≠ 0b11#2) (hemphasis : f.emphasis = 0b10#2) : hdec R f = .error .reservedEmphasis := by
  rcases hdec_cases R f with ⟨h, _⟩ | ⟨_, h, _⟩ | ⟨_, _, _, h, _⟩ | ⟨_, _, _, _, _, h, _⟩ |
    ⟨_, _, _, _, _, _, _, h, _⟩ | ⟨_, _, _, _, _, _, _, _, _, _, h⟩ | ⟨_, _, _, _, _, _, _, _, _, h, _⟩ | ⟨_, h⟩
  · exact absurd hsync h
  · exact absurd h hversion
  · exact absurd h hlayer
  · exact absurd h hbitrate
  · exact absurd h hsrate
  · exact h
  · exact absurd hemphasis (decodeEmphasis_ok_ne_reserved h)
  · exact absurd hemphasis (decodeEmphasis_ok_ne_reserved (hdec_ok_iff.1 h).emphasis)

end Sys2Proof

namespace Sys2Proof.Machine

/-- The error's bank in the numbers of the statements (60_exceptions R200, R212). -/
theorem ofError_eq_errorRegs (e : HeaderError) : ResultRegs.ofError e = Claims.errorRegs (Claims.statusCode e) := by
  cases e <;> rfl

theorem exec_hdec_of_error {f : HeaderFields} {e : HeaderError} (h : hdec Config.roms f = .error e) (s : State) :
    exec (.hdec f) s = .next { s with regs := Claims.errorRegs (Claims.statusCode e) } := by
  calc exec (.hdec f) s
    _ = execHdec f s := rfl
    _ = raiseError e s := by rw [execHdec, h]
    _ = .next { s with regs := Claims.errorRegs (Claims.statusCode e) } := by
      rw [raiseError_eq, ofError_eq_errorRegs]
      rfl

end Sys2Proof.Machine

namespace Sys2Proof

open Machine

/-- Settles O20: an accepted word's record is read field by field, and step 10 raises on emphasis 10 before step 11 is reached. -/
theorem protectionFlagsModeAndEmphasisFollowTheirBits :
    Obligations.ProtectionFlagsModeAndEmphasisFollowTheirBits := by
  refine ⟨fun w h hd => ?_, fun f s hsync hv hl hb hr he => ?_, rfl, ⟨_, rfl, rfl, rfl⟩, ⟨_, rfl, rfl⟩⟩
  · have ok := hdec_ok_iff.1 hd
    have hasCrc : h.hasCrc = !w.getLsbD 16 := ok.hasCrc.trans (decodeProtection_bit w 16)
    have padded : h.padded = w.getLsbD 9 := ok.padded.trans (decodeFlag_bit w 9)
    have privateBit : h.privateBit = w.getLsbD 8 := ok.privateBit.trans (decodeFlag_bit w 8)
    have copyrighted : h.copyrighted = w.getLsbD 3 := ok.copyrighted.trans (decodeFlag_bit w 3)
    have original : h.original = w.getLsbD 2 := ok.original.trans (decodeFlag_bit w 2)
    have mode {c : BitVec 2} (hc : w.extractLsb' 6 2 = c) : h.channelMode = decodeMode c :=
      ok.mode.trans (congrArg decodeMode hc)
    have emphasis (e : Emphasis) (hc : w.extractLsb' 0 2 = e.code) : h.emphasis = e :=
      Emphasis.code_injective ((decodeEmphasis_ok ok.emphasis).trans hc)
    exact ⟨by rw [hasCrc, Bool.not_eq_true'], by rw [padded], by rw [privateBit], by rw [copyrighted],
      by rw [original], mode, mode, mode, mode, emphasis .none, emphasis .ms5015, emphasis .ccitJ17,
      decodeEmphasis_ok_ne_reserved ok.emphasis⟩
  · exact exec_hdec_of_error (hdec_reservedEmphasis hsync hv hl hb hr he) s

end Sys2Proof
end

section
/-! How steps 2 and 3 divide the words that pass the sync test (40_header_decoder R103, R104, R114). -/

namespace Sys2Proof

open Machine

theorem Version.code_injective : Function.Injective Version.code := fun a b h => by
  have decoded := congrArg decodeVersion h
  rwa [decodeVersion_code, decodeVersion_code, Except.ok.injEq] at decoded

theorem Layer.code_injective : Function.Injective Layer.code := fun a b h => by
  have decoded := congrArg decodeLayer h
  rwa [decodeLayer_code, decodeLayer_code, Except.ok.injEq] at decoded

theorem decodeVersion_ok_ne_reserved {c : BitVec 2} {v : Version} (h : decodeVersion c = .ok v) : c ≠ 0b01#2 := by
  rintro rfl
  cases h

theorem decodeLayer_ok_ne_reserved {c : BitVec 2} {l : Layer} (h : decodeLayer c = .ok l) : c ≠ 0b00#2 := by
  rintro rfl
  cases h

/-- After the sync test the version code decides first and the layer code next; no later step raises their errors. -/
theorem hdec_version_layer_cases (R : Roms) {f : HeaderFields} (hsync : f.sync = 0x7FF#11) :
    (f.version = 0b01#2 ∧ hdec R f = .error .reservedVersion) ∨
    (f.version ≠ 0b01#2 ∧ f.layer = 0b00#2 ∧ hdec R f = .error .reservedLayer) ∨
    (f.version ≠ 0b01#2 ∧ f.layer ≠ 0b00#2 ∧
      hdec R f ≠ .error .reservedVersion ∧ hdec R f ≠ .error .reservedLayer) := by
  have later {v : Version} {l : Layer} {r : Except HeaderError FrameHeader} (hv : decodeVersion f.version = .ok v)
      (hl : decodeLayer f.layer = .ok l) (h : hdec R f = r) (hr : r ≠ .error .reservedVersion)
      (hr' : r ≠ .error .reservedLayer) : f.version ≠ 0b01#2 ∧ f.layer ≠ 0b00#2 ∧
        hdec R f ≠ .error .reservedVersion ∧ hdec R f ≠ .error .reservedLayer :=
    ⟨decodeVersion_ok_ne_reserved hv, decodeLayer_ok_ne_reserved hl, h ▸ hr, h ▸ hr'⟩
  rcases hdec_cases R f with ⟨hs, _⟩ | ⟨_, hv, h⟩ | ⟨_, _, hv, hl, h⟩ | ⟨_, _, _, hv, hl, _, h⟩ |
    ⟨_, _, _, _, hv, hl, _, _, h⟩ | ⟨_, _, _, _, _, hv, hl, _, _, _, h⟩ |
    ⟨_, _, _, _, _, hv, hl, _, _, _, _, h⟩ | ⟨_, h⟩
  · exact absurd hsync hs
  · exact .inl ⟨hv, h⟩
  · exact .inr (.inl ⟨decodeVersion_ok_ne_reserved hv, hl, h⟩)
  · exact .inr (.inr (later hv hl h nofun nofun))
  · exact .inr (.inr (later hv hl h nofun nofun))
  · exact .inr (.inr (later hv hl h nofun nofun))
  · exact .inr (.inr (later hv hl h nofun nofun))
  · have ok := hdec_ok_iff.1 h
    exact .inr (.inr (later ok.version ok.layer h nofun nofun))

theorem hdec_reservedVersion_iff {R : Roms} {f : HeaderFields} (hsync : f.sync = 0x7FF#11) :
    hdec R f = .error .reservedVersion ↔ f.version = 0b01#2 := by
  rcases hdec_version_layer_cases R hsync with ⟨hv, h⟩ | ⟨hv, _, h⟩ | ⟨hv, _, h, _⟩
  · exact iff_of_true h hv
  · exact iff_of_false (h ▸ nofun) hv
  · exact iff_of_false h hv

theorem hdec_reservedLayer_iff {R : Roms} {f : HeaderFields} (hsync : f.sync = 0x7FF#11) (hversion : f.version ≠ 0b01#2) :
    hdec R f = .error .reservedLayer ↔ f.layer = 0b00#2 := by
  rcases hdec_version_layer_cases R hsync with ⟨hv, _⟩ | ⟨_, hl, h⟩ | ⟨_, hl, _, h⟩
  · exact absurd hv hversion
  · exact iff_of_true h hl
  · exact iff_of_false h hl

/-- The bit-rate table has one version group for MPEG2 and MPEG2.5, and it is not MPEG1's (R103). -/
theorem bitrateCol_groups (l : Layer) :
    bitrateCol .mpeg2 l = bitrateCol .mpeg25 l ∧ bitrateCol .mpeg1 l ≠ bitrateCol .mpeg2 l := by
  cases l <;> decide

/-- Settles O19: the two errors by the case division above, the values of an accepted word because the codes are injective. -/
theorem versionAndLayerStepsClassifyCodes : Obligations.VersionAndLayerStepsClassifyCodes := by
  refine ⟨fun R f hsync => ⟨hdec_reservedVersion_iff hsync, hdec_reservedLayer_iff hsync, fun h hd => ?_⟩,
    bitrateCol_groups,
    fun f s hsync => ⟨fun hv => exec_hdec_of_error ((hdec_reservedVersion_iff hsync).2 hv) s,
      fun hv hl => exec_hdec_of_error ((hdec_reservedLayer_iff hsync hv).2 hl) s⟩,
    rfl, rfl⟩
  have ok := hdec_ok_iff.1 hd
  have version (v : Version) (hc : f.version = v.code) : h.version = v ∧ h.version.vcol = v.vcol :=
    have hv : h.version = v := Version.code_injective ((decodeVersion_ok ok.version).trans hc)
    ⟨hv, congrArg Version.vcol hv⟩
  have layer (l : Layer) (hc : f.layer = l.code) : h.layer = l ∧ h.layer.lrow = l.lrow :=
    have hl : h.layer = l := Layer.code_injective ((decodeLayer_ok ok.layer).trans hc)
    ⟨hl, congrArg Layer.lrow hl⟩
  exact ⟨version .mpeg25, version .mpeg2, version .mpeg1, layer .layerIII, layer .layerII, layer .layerI⟩

end Sys2Proof
end

section
/-! Which bit rates and channel modes the Layer II check rejects, and where the default table holds them (40_header_decoder R112). -/

namespace Sys2Proof

open Machine

theorem prohibitedPair_iff {bps : Nat} {m : ChannelMode} : prohibitedPair bps m = true ↔
    (m ≠ .singleChannel ∧ bps ∈ [32000, 48000, 56000, 80000]) ∨
      (m = .singleChannel ∧ bps ∈ [224000, 256000, 320000, 384000]) := by
  unfold prohibitedPair
  split
  next hm => simp [hm]
  next hm => simp [hm]

theorem checkLayerII_prohibited_iff {l : Layer} {bps : Nat} {m : ChannelMode} :
    checkLayerII l bps m = .error .prohibitedBitrateChannelCombination ↔
      l = .layerII ∧ prohibitedPair bps m = true := by
  rw [checkLayerII_error, and_iff_left rfl]

@[simp] theorem prohibitedPair_zero (m : ChannelMode) : prohibitedPair 0 m = false := by
  cases m <;> rfl

@[simp] theorem checkLayerII_zero (l : Layer) (m : ChannelMode) : checkLayerII l 0 m = .ok () := by
  rw [checkLayerII_ok, prohibitedPair_zero]
  exact fun h => nomatch h.2

/-- Where row 0 holds 0 (R133, R138), the bit rate of every index that passes step 4 is its row's entry, the free index's too. -/
theorem decodeBitrate_ok_entry {R : Roms} {v : Version} {l : Layer} {idx : BitVec 4} {bps : Nat}
    (hfree : ∀ col, R.bitrate 0 col = 0) (h : decodeBitrate R v l idx = .ok bps) :
    ∃ i : Fin 15, idx = BitVec.ofNat 4 i ∧ bps = (R.bitrate i (bitrateCol v l)).toNat := by
  by_cases h0 : idx = 0#4
  · subst h0
    rw [decodeBitrate_zero, Except.ok.injEq] at h
    exact ⟨0, rfl, by rw [hfree, ← h]; rfl⟩
  · have hidx : idx ≠ 0xF#4 := by
      rintro rfl
      cases h
    rw [decodeBitrate_row R v l h0 (bitrateIdx_lt hidx), Except.ok.injEq] at h
    exact ⟨⟨idx.toNat, bitrateIdx_lt hidx⟩, by simp, h.symm⟩

/-- The rows of the default Layer II columns that single channel may not use. -/
theorem layerII_rate_singleChannel_rows (v : Version) (i : Fin 15) :
    (Config.roms.bitrate i (bitrateCol v .layerII)).toNat ∈ [224000, 256000, 320000, 384000] ↔
      v = .mpeg1 ∧ BitVec.ofNat 4 i ∈ [11#4, 12#4, 13#4, 14#4] := by
  cases v <;> revert i <;> decide

/-- The rows of the default Layer II columns that the other modes may not use. -/
theorem layerII_rate_otherModes_rows (v : Version) (i : Fin 15) :
    (Config.roms.bitrate i (bitrateCol v .layerII)).toNat ∈ [32000, 48000, 56000, 80000] ↔
      (v = .mpeg1 ∧ BitVec.ofNat 4 i ∈ [1#4, 2#4, 3#4, 5#4]) ∨
        (v ≠ .mpeg1 ∧ BitVec.ofNat 4 i ∈ [4#4, 6#4, 7#4, 9#4]) := by
  cases v <;> revert i <;> decide

/-- Settles O22: the check is membership in the list of the mode, and the listed rates are looked up in the Layer II columns. -/
theorem layerIICheckRejectsTheListedPairs : Obligations.LayerIICheckRejectsTheListedPairs := by
  refine ⟨fun l bps m => checkLayerII_prohibited_iff.trans (and_congr_right' prohibitedPair_iff), checkLayerII_zero,
    fun v idx bps h => ?_, fun f s h => exec_hdec_of_error h s, rfl, ⟨_, rfl, rfl, rfl⟩⟩
  obtain ⟨i, rfl, rfl⟩ := decodeBitrate_ok_entry (by decide) h
  exact ⟨layerII_rate_singleChannel_rows v i, layerII_rate_otherModes_rows v i⟩

end Sys2Proof
end

section
/-! The bit-rate column as a function of the header's version and layer codes, and the address it is part of (41_lookup_tables R131). -/

namespace Sys2Proof

open Claims

/-- MPEG1 has a column for each layer, counted down from the layer code (R131). -/
theorem bitrateCol_mpeg1 (l : Layer) : (bitrateCol .mpeg1 l).val = 3 - (layerCode l).toNat := by
  cases l <;> rfl

/-- MPEG2 and MPEG2.5 share a column set, in which Layer I stands alone (R131). -/
theorem bitrateCol_of_ne_mpeg1 {v : Version} (hv : v ≠ .mpeg1) (l : Layer) :
    (bitrateCol v l).val = if layerCode l = 3#2 then 3 else 4 := by
  cases v with
  | mpeg1 => exact absurd rfl hv
  | mpeg2 => cases l <;> rfl
  | mpeg25 => cases l <;> rfl

theorem versionCode_eq_three_iff {v : Version} : versionCode v = 3#2 ↔ v = .mpeg1 := by
  cases v <;> decide

theorem bitrateCol_eq_of_codes (v : Version) (l : Layer) : (bitrateCol v l).val =
    if versionCode v = 3#2 then 3 - (layerCode l).toNat else if layerCode l = 3#2 then 3 else 4 := by
  split
  next hv => rw [versionCode_eq_three_iff.1 hv, bitrateCol_mpeg1]
  next hv => exact bitrateCol_of_ne_mpeg1 (mt versionCode_eq_three_iff.2 hv) l

/-- `{col, idx}` puts the column above the index's four bits (R45). -/
theorem bitrateAddr_toNat (col : BitVec 3) (idx : BitVec 4) :
    (bitrateAddr col idx).toNat = 16 * col.toNat + idx.toNat := by
  rw [bitrateAddr, toNat_append_eq_mul_add]
  omega

/-- Settles O46: the column by the version code and then the layer code, the address because a column fits its 3 bits. -/
theorem bitrateColumnInHeaderBits : Obligations.BitrateColumnInHeaderBits := by
  refine ⟨bitrateCol_eq_of_codes, rfl, rfl, rfl, rfl, rfl, rfl, rfl, rfl, rfl, fun col idx => ?_⟩
  have hcol : col.val < 2 ^ 3 := by omega
  rw [bitrateAddr_toNat, BitVec.toNat_ofNat, Nat.mod_eq_of_lt hcol]

end Sys2Proof
end

section
/-! The operands of the frame length, and why the length fits its register (42_frame_length R151, R155, R157). -/

namespace Sys2Proof

theorem samplesPer_layerI {h : FrameHeader} (hl : h.layer = .layerI) : samplesPer Config.roms h = 384 := by
  rw [samplesPer, hl]
  cases h.version <;> rfl

theorem samplesPer_layerII {h : FrameHeader} (hl : h.layer = .layerII) : samplesPer Config.roms h = 1152 := by
  rw [samplesPer, hl]
  cases h.version <;> rfl

theorem samplesPer_layerIII_mpeg1 {h : FrameHeader} (hl : h.layer = .layerIII) (hv : h.version = .mpeg1) :
    samplesPer Config.roms h = 1152 := by
  rw [samplesPer, hl, hv]
  rfl

theorem samplesPer_layerIII_of_ne_mpeg1 {h : FrameHeader} (hl : h.layer = .layerIII) (hv : h.version ≠ .mpeg1) :
    samplesPer Config.roms h = 576 := by
  rw [samplesPer, hl]
  cases hver : h.version with
  | mpeg1 => exact absurd hver hv
  | mpeg2 | mpeg25 => rfl

theorem samplesPer_le (h : FrameHeader) : samplesPer Config.roms h ≤ 1152 := by
  have entry : ∀ lrow vcol, (Config.roms.spf lrow vcol).toNat ≤ 1152 := by decide
  exact entry _ _

/-- The largest factors over the smallest divisor (R157): a coarse bound, enough for the register's width. -/
theorem baseLength_le {h : FrameHeader} (hvalid : h.valid Config.roms = true) : baseLength Config.roms h ≤ 8064 := by
  obtain ⟨hbps, hhz, _⟩ := FrameHeader.valid_iff.1 hvalid
  have rate : h.bitRateBps ≤ 448000 := validBitRate_le hbps
  have divisor : 8 * 8000 ≤ 8 * h.sampleRateHz := Nat.mul_le_mul_left 8 (validSampleRate_bounds hhz).1
  calc baseLength Config.roms h
    _ = samplesPer Config.roms h * h.bitRateBps / (8 * h.sampleRateHz) := rfl
    _ ≤ 1152 * 448000 / (8 * 8000) := Nat.div_le_div (Nat.mul_le_mul (samplesPer_le h) rate) divisor (by decide)

theorem padAdjust_le (h : FrameHeader) : padAdjust h ≤ 1 := by
  unfold padAdjust; split <;> decide

theorem crcAdjust_le (h : FrameHeader) : crcAdjust h ≤ 2 := by
  unfold crcAdjust; split <;> decide

/-- Writing the length to `len_bytes` cuts nothing off (R157). -/
theorem flen_lt_of_valid {h : FrameHeader} {n : Nat} (hvalid : h.valid Config.roms = true)
    (hn : flen Config.roms h = .ok n) : n < 2 ^ Config.lenW := by
  have base := baseLength_le hvalid
  have pad := padAdjust_le h
  have crc := crcAdjust_le h
  have width : 2 ^ Config.lenW = 65536 := rfl
  obtain ⟨_, rfl⟩ := flen_ok.1 hn
  omega

/-- Row 0 is the only row of the default bit-rate table that holds a 0 (41_lookup_tables R133, R138). -/
theorem bitrate_eq_zero_iff (i : Fin 15) (col : Fin 5) :
    (Config.roms.bitrate i col).toNat = 0 ↔ BitVec.ofNat 4 i = 0#4 := by
  revert i col; decide

theorem hdec_bitRate_eq_zero_iff {f : HeaderFields} {h : FrameHeader} (hd : hdec Config.roms f = .ok h) :
    h.bitRateBps = 0 ↔ f.bitrateIdx = 0#4 := by
  obtain ⟨i, hidx, hbps⟩ := decodeBitrate_ok_entry (by decide) (hdec_ok_iff.1 hd).bitRate
  rw [hidx, hbps]
  exact bitrate_eq_zero_iff i _

end Sys2Proof

namespace Sys2Proof.Machine

theorem exec_flen_of_valid {h : FrameHeader} (hvalid : h.valid Config.roms = true) (s : State) :
    exec (.flen h) s = .next (s.setRegs (s.regs.withLength (flen Config.roms h))) := by
  rcases execFlen_cases h s with ⟨_, he⟩ | ⟨hinvalid, _⟩
  · exact he
  · simp [hvalid] at hinvalid

end Sys2Proof.Machine

namespace Sys2Proof

open Machine

/-- Settles O13: FLEN writes what `flen` returns, the register holds it uncut, and the table gives the samples case by case. -/
theorem flenComputesFrameLength : Obligations.FlenComputesFrameLength := by
  refine ⟨fun h s hvalid => ⟨fun h0 => ?undefined, fun hne => ?defined⟩, fun f h => hdec_bitRate_eq_zero_iff⟩
  case undefined =>
    have len : flen Config.roms h = .error .undefinedFrameLength := flen_error.2 h0
    rw [exec_flen_of_valid hvalid, len]
    rfl
  case defined =>
    have len : flen Config.roms h = .ok (baseLength Config.roms h + padAdjust h + crcAdjust h) := flen_ok.2 ⟨hne, rfl⟩
    refine ⟨BitVec.ofNat Config.lenW (baseLength Config.roms h + padAdjust h + crcAdjust h), ?_, ?_⟩
    · rw [exec_flen_of_valid hvalid, len]
      rfl
    · rw [BitVec.toNat_ofNat, Nat.mod_eq_of_lt (flen_lt_of_valid hvalid len), baseLength, padAdjust, crcAdjust]
      congr 4
      show samplesPer Config.roms h = _
      split
      next hl => exact samplesPer_layerI hl
      next hl => exact samplesPer_layerII hl
      next hl hv => exact samplesPer_layerIII_mpeg1 hl hv
      next hl hv => exact samplesPer_layerIII_of_ne_mpeg1 hl hv

end Sys2Proof
end

section
/-! A word HDEC accepts goes through no failing row, so the decoder answers HDEC itself (40_header_decoder R114, 30_encoding R76). -/

namespace Sys2Proof

theorem find?_takeThrough {α : Type} (p : α → Bool) (l : List α) : (takeThrough p l).find? p = l.find? p := by
  induction l with
  | nil => rfl
  | cons a as ih => cases h : p a <;> simp [takeThrough, h, ih]

theorem versionRowOf_code_raises (v : Version) : (versionRowOf v.code).raises = none := by
  cases v <;> rfl

theorem layerRowOf_code_raises (l : Layer) : (layerRowOf l.code).raises = none := by
  cases l <;> rfl

theorem protectionRowOf_raises (b : BitVec 1) : (protectionRowOf b).raises = none := by
  revert b; decide

theorem bitrateRowOf_raises {idx : BitVec 4} (h : idx ≠ 0xF#4) : (bitrateRowOf idx).raises = none := by
  revert idx; decide

theorem srateRowOf_raises {sidx : BitVec 2} (h : sidx ≠ 3#2) : (srateRowOf sidx).raises = none := by
  revert sidx; decide

theorem paddingRowOf_raises (b : BitVec 1) : (paddingRowOf b).raises = none := by
  revert b; decide

theorem privateBitRowOf_raises (b : BitVec 1) : (privateBitRowOf b).raises = none := by
  revert b; decide

theorem modeRowOf_raises (m : ChannelMode) : (modeRowOf m).raises = none := by
  cases m <;> rfl

theorem jointExtRowOf_raises (l : Layer) (x : BitVec 2) : (jointExtRowOf l x).raises = none := by
  cases l <;> revert x <;> decide

theorem copyrightRowOf_raises (b : BitVec 1) : (copyrightRowOf b).raises = none := by
  revert b; decide

theorem originalRowOf_raises (b : BitVec 1) : (originalRowOf b).raises = none := by
  revert b; decide

theorem emphasisRowOf_code_raises (e : Emphasis) : (emphasisRowOf e.code).raises = none := by
  cases e <;> rfl

/-- The table has a Layer II row for prohibited pairs only (R112). -/
theorem prohibitedPair_of_layerIIRowOf {v : Version} {bps : Nat} {m : ChannelMode} {i : Instr}
    (h : layerIIRowOf v bps m = some i) : prohibitedPair bps m = true := by
  unfold layerIIRowOf at h
  split at h
  -- the last case of the table is every pair without a row
  case h_41 => cases h
  all_goals rfl

theorem decodeBitrate_ok_ne_invalid {R : Roms} {v : Version} {l : Layer} {idx : BitVec 4} {bps : Nat}
    (h : decodeBitrate R v l idx = .ok bps) : idx ≠ 0xF#4 := by
  rintro rfl
  cases h

theorem decodeSampleRate_ok_ne_reserved {R : Roms} {v : Version} {sidx : BitVec 2} {hz : Nat}
    (h : decodeSampleRate R v sidx = .ok hz) : sidx ≠ 3#2 := by
  rintro rfl
  cases h

/-- Each step of an accepted word selects a row that raises nothing, and step 11 selects none. -/
theorem rowAt_raises_of_hdec_ok {f : HeaderFields} {h : FrameHeader} (hd : hdec Config.roms f = .ok h)
    {st : DecodeStep} {i : Instr} (hi : rowAt f st = some i) : i.raises = none := by
  have ok := hdec_ok_iff.1 hd
  cases st with
  | version =>
    cases hi
    rw [← decodeVersion_ok ok.version]
    exact versionRowOf_code_raises _
  | layer =>
    cases hi
    rw [← decodeLayer_ok ok.layer]
    exact layerRowOf_code_raises _
  | protection => cases hi; exact protectionRowOf_raises _
  | bitrate => cases hi; exact bitrateRowOf_raises (decodeBitrate_ok_ne_invalid ok.bitRate)
  | srate => cases hi; exact srateRowOf_raises (decodeSampleRate_ok_ne_reserved ok.sampleRate)
  | padding => cases hi; exact paddingRowOf_raises _
  | privateBit => cases hi; exact privateBitRowOf_raises _
  | mode => cases hi; exact modeRowOf_raises _
  | modeExt =>
    cases hm : decodeMode f.mode with
    | jointStereo =>
      simp only [rowAt, hm, ok.layer, Option.some.injEq] at hi
      exact hi ▸ jointExtRowOf_raises _ _
    | stereo | dualChannel | singleChannel =>
      simp only [rowAt, hm, Option.some.injEq] at hi
      exact hi ▸ rfl
  | copyright => cases hi; exact copyrightRowOf_raises _
  | original => cases hi; exact originalRowOf_raises _
  | emphasis =>
    cases hi
    rw [← decodeEmphasis_ok ok.emphasis]
    exact emphasisRowOf_code_raises _
  | layerII =>
    cases hl : h.layer with
    | layerII =>
      have rate := hl ▸ ok.bitRate
      simp only [rowAt, ok.version, ok.layer, hl, rate] at hi
      have prohibited := prohibitedPair_of_layerIIRowOf hi
      rw [← ok.mode] at prohibited
      exact absurd ⟨hl, prohibited⟩ (checkLayerII_ok.1 ok.layerII)
    | layerI | layerIII => simp [rowAt, ok.version, ok.layer, hl] at hi

theorem syncOk_of_hdec_ok {w : Word} {h : FrameHeader} (hd : hdec Config.roms (fieldsOf w) = .ok h) :
    syncOk w = true :=
  (syncOk_iff w).2 (hdec_ok_iff.1 hd).sync

theorem decodeWord_of_hdec_ok {w : Word} {h : FrameHeader} (hd : hdec Config.roms (fieldsOf w) = .ok h) :
    decodeWord w = .hdec (fieldsOf w) := by
  have noError : (decodeSteps.filterMap (rowAt (fieldsOf w))).find? (fun i => i.raises.isSome) = none := by
    rw [List.find?_eq_none]
    intro i hi
    obtain ⟨st, _, hrow⟩ := List.mem_filterMap.1 hi
    simp [rowAt_raises_of_hdec_ok hd hrow]
  rw [decodeWord, if_pos (syncOk_of_hdec_ok hd), rowsOf, find?_takeThrough, noError, Option.getD_none]

end Sys2Proof
end

section
/-! The header HDEC accepts is valid, so the output registers give it back (30_encoding R72 to R74, 40_header_decoder R115). -/

namespace Sys2Proof

theorem validBitRate_of_decodeBitrate {v : Version} {l : Layer} {idx : BitVec 4} {bps : Nat}
    (h : decodeBitrate Config.roms v l idx = .ok bps) : validBitRate Config.roms v l bps = true := by
  have freeRow : ∀ col, Config.roms.bitrate 0 col = 0 := by decide
  obtain ⟨i, _, rfl⟩ := decodeBitrate_ok_entry freeRow h
  rw [validBitRate, Bool.or_eq_true, List.any_eq_true]
  cases i using Fin.cases with
  | zero => exact .inl (by rw [freeRow]; rfl)
  | succ j => exact .inr ⟨j, List.mem_finRange j, beq_self_eq_true _⟩

theorem validSampleRate_of_decodeSampleRate {v : Version} {sidx : BitVec 2} {hz : Nat}
    (h : decodeSampleRate Config.roms v sidx = .ok hz) : validSampleRate Config.roms v hz = true := by
  have lt := srateIdx_lt (decodeSampleRate_ok_ne_reserved h)
  rw [decodeSampleRate_row Config.roms v lt, Except.ok.injEq] at h
  subst h
  have positive := (sampleRate_bounds ⟨sidx.toNat, lt⟩ v.vcol).1
  rw [validSampleRate, Bool.and_eq_true, bne_iff_ne, List.any_eq_true]
  exact ⟨by omega, _, List.mem_finRange _, beq_self_eq_true _⟩

theorem validJse_decodeModeExt (m : ChannelMode) (l : Layer) (x : BitVec 2) :
    validJse m l (decodeModeExt m l x) = true := by
  cases m <;> cases l <;> revert x <;> decide

theorem hdec_ok_valid {f : HeaderFields} {h : FrameHeader} (hd : hdec Config.roms f = .ok h) :
    h.valid Config.roms = true := by
  have ok := hdec_ok_iff.1 hd
  exact FrameHeader.valid_iff.2 ⟨validBitRate_of_decodeBitrate ok.bitRate,
    validSampleRate_of_decodeSampleRate ok.sampleRate, ok.jse ▸ validJse_decodeModeExt _ _ _,
    checkLayerII_ok.1 ok.layerII⟩

/-- The four registers of the union spell it back: a band start of a valid record is at most 16 and fits its 5 bits (R73). -/
theorem jointStereoExtOf_registers {m : ChannelMode} {l : Layer} {j : JointStereoExt} (h : validJse m l j = true) :
    jointStereoExtOf j.tag j.band j.intensity j.ms = some j := by
  cases j with
  | absent => rfl
  | stereoFlags i ms => rfl
  | bandStart n =>
    have listed : n ∈ [4, 8, 12, 16] := by
      rw [validJse, Bool.and_eq_true, List.contains_iff_mem] at h
      exact h.2
    have bound : ∀ k ∈ [4, 8, 12, 16], k < 2 ^ 5 := by decide
    simpa [jointStereoExtOf, JointStereoExt.tag, JointStereoExt.band] using bound n listed

end Sys2Proof

namespace Sys2Proof.Machine

@[simp] theorem header?_accepted (r : ResultRegs) : r.accepted.header? = r.header? := rfl

@[simp] theorem header?_withLength (r : ResultRegs) (l : Except LengthError Nat) :
    (r.withLength l).header? = r.header? := by
  simp [ResultRegs.header?]

theorem header?_withHeader {h : FrameHeader} (hvalid : h.valid Config.roms = true) (r : ResultRegs) :
    (r.withHeader h).header? = some h := by
  obtain ⟨hbps, hhz, hjse, _⟩ := FrameHeader.valid_iff.1 hvalid
  have bps : h.bitRateBps < 2 ^ Config.brW := (validBitRate_le hbps).trans_lt (by decide)
  have hz : h.sampleRateHz < 2 ^ Config.srW := (validSampleRate_bounds hhz).2.trans_lt (by decide)
  simp [ResultRegs.header?, jointStereoExtOf_registers hjse, Nat.mod_eq_of_lt bps, Nat.mod_eq_of_lt hz]

theorem readPorts_of_length {r : ResultRegs} {h : FrameHeader} (hvalid : r.outValid = true)
    (hstatus : r.outStatus = statusOk) (hlen : r.lenStatus = lenStatusOk) (hheader : r.header? = some h) :
    readPorts r = .framed ⟨h, r.lenBytes.toNat⟩ := by
  simp [readPorts, hvalid, hstatus, hlen, hheader]

/-- The ports after HDEC accepted a word and FLEN gave its length show both (42_frame_length R160). -/
theorem readPorts_accepted {h : FrameHeader} {n : Nat} (hvalid : h.valid Config.roms = true)
    (hn : flen Config.roms h = .ok n) (r : ResultRegs) :
    readPorts ((r.withHeader h).accepted.withLength (.ok n)) = .framed ⟨h, n⟩ := by
  have uncut : (BitVec.ofNat Config.lenW n).toNat = n := by
    rw [BitVec.toNat_ofNat, Nat.mod_eq_of_lt (flen_lt_of_valid hvalid hn)]
  rw [readPorts_of_length (h := h) rfl rfl rfl (by simp [header?_withHeader hvalid]), withLength_ok_lenBytes, uncut]

end Sys2Proof.Machine
end

section
/-! The edge on an accepted word with a defined length: the ports show that header and that length (70_reset_and_hazards R243). -/

namespace Sys2Proof.Machine

theorem sampleOf_eq_some {w : Word} {x : Sample} (h : sampleOf w = some x) :
    hdec Config.roms (fieldsOf w) = .ok x.header ∧ flen Config.roms x.header = .ok x.length := by
  unfold sampleOf at h
  split at h
  next hd =>
    split at h
    next hn => cases h; exact ⟨hd, hn⟩
    next => cases h
  next => cases h

theorem exec_hdec_of_ok {f : HeaderFields} {h : FrameHeader} (hd : hdec Config.roms f = .ok h) (s : State) :
    exec (.hdec f) s = .next (s.setRegs (s.regs.withHeader h).accepted) := by
  show execHdec f s = _
  rw [execHdec, hd]

theorem clockEdge_of_sampleOf {s : State} {w : Word} {x : Sample} (hpins : s.pins = Pins.present w)
    (hx : sampleOf w = some x) : ∃ r, clockEdge s = .next (s.setRegs r) ∧ readPorts r = .framed x := by
  obtain ⟨hd, hn⟩ := sampleOf_eq_some hx
  have valid := hdec_ok_valid hd
  have word : clockEdge s = wordEdge s := clockEdge_word (by rw [hpins]; rfl) (by rw [hpins]; rfl)
  have inWord : s.pins.inWord = w := by rw [hpins]; rfl
  refine ⟨(s.regs.withHeader x.header).accepted.withLength (.ok x.length), ?_, readPorts_accepted valid hn _⟩
  rw [word, wordEdge, inWord, decodeWord_of_hdec_ok hd, exec_hdec_of_ok hd, andThen_next,
    flenStage_ok (h := x.header) rfl (by simp [header?_withHeader valid]), exec_flen_of_valid valid, hn]
  rfl

end Sys2Proof.Machine
end

section
/-! The stream bytes of a frame, and the window a frame's first four bytes form (20_memory R40, 45_host_stream_scanner R174). -/

namespace Sys2Proof

@[simp] theorem wordOfBytes_bytesOfWord (w : Word) :
    wordOfBytes (w.extractLsb' 24 8) (w.extractLsb' 16 8) (w.extractLsb' 8 8) (w.extractLsb' 0 8) = w := by
  rw [wordOfBytes_eq_append, BitVec.extractLsb'_append_extractLsb'_eq_extractLsb' (by rfl),
    BitVec.extractLsb'_append_extractLsb'_eq_extractLsb' (by rfl),
    BitVec.extractLsb'_append_extractLsb'_eq_extractLsb' (by rfl)]
  exact BitVec.extractLsb'_eq_self

end Sys2Proof

namespace Sys2Proof.Machine

theorem windowAt_of_bytesOfWord (before after : List Byte) (w : Word) :
    windowAt (before ++ (bytesOfWord w ++ after)) before.length = some w := by
  rw [windowAt, List.drop_left]
  simp [bytesOfWord]

/-- Once four of its bytes are buffered, a window is the one of the whole stream. -/
theorem windowAt_of_prefix {a b : List Byte} {pos : Nat} {w : Word} (hp : a <+: b) (h : windowAt b pos = some w)
    (hlen : pos + 4 ≤ a.length) : windowAt a pos = some w := by
  cases ha : windowAt a pos with
  | none =>
    have := windowAt_eq_none.1 ha
    omega
  | some v => rw [← h, windowAt_prefix hp ha]

end Sys2Proof.Machine

namespace Sys2Proof.Claims

open Machine

theorem FrameBytes.length_bytes (f : FrameBytes) : f.bytes.length = f.sample.length := by
  rw [← f.full, FrameBytes.bytes, List.length_append, Nat.add_comm]
  rfl

@[simp] theorem length_framesAt (pos : Nat) (fs : List FrameBytes) : (framesAt pos fs).length = fs.length := by
  induction fs generalizing pos with
  | nil => rfl
  | cons f rest ih => rw [framesAt, List.length_cons, ih, List.length_cons]

@[simp] theorem headers_framesAt (pos : Nat) (fs : List FrameBytes) :
    (framesAt pos fs).map (fun g => g.header) = fs.map (fun f => f.sample.header) := by
  induction fs generalizing pos with
  | nil => rfl
  | cons f rest ih => rw [framesAt, List.map_cons, ih, List.map_cons, frameOf]

end Sys2Proof.Claims
end

section
/-! A step of a machine whose scanner drives the ports (45_host_stream_scanner R184; log 4). -/

namespace Sys2Proof.Machine

/-- The scanner drives the ports at the coming edge, and nothing from outside is queued (log 4). -/
structure State.ScannerDrives (s : State) : Prop where
  driver : s.driver = .scanner
  inputs : s.inputs = []
  pins : s.pins = s.host.drive

theorem State.ScannerDrives.step_of_clockEdge {s : State} (hs : s.ScannerDrives) {r : ResultRegs}
    (hedge : clockEdge s = .next (s.setRegs r)) :
    ∃ t, step s = .next t ∧ t.ScannerDrives ∧ t.host = s.host.turn r := by
  have inputs : (hostTurn (s.setRegs r)).inputs = [] := by rw [hostTurn_inputs, setRegs_inputs, hs.inputs]
  have drives : (betweenEdges (s.setRegs r)).ScannerDrives := by
    rw [betweenEdges, nextPins_nil inputs]
    exact ⟨rfl, inputs, rfl⟩
  exact ⟨_, Machine.step_of_clockEdge hedge, drives, betweenEdges_host_scanner (s := s.setRegs r) hs.driver⟩

/-- While the scanner presents no window the edge is idle, and the scanner takes its turn. -/
theorem State.ScannerDrives.step_idle {s : State} (hs : s.ScannerDrives) (hidle : s.host.drive = .idle) :
    ∃ t, step s = .next t ∧ t.ScannerDrives ∧ t.host = s.host.turn { s.regs with outValid := false } :=
  hs.step_of_clockEdge (clockEdge_idle (by rw [hs.pins, hidle]; rfl) (by rw [hs.pins, hidle]; rfl))

theorem State.ScannerDrives.step_seeking {s : State} (hs : s.ScannerDrives) (hphase : s.host.phase = .seeking) :
    ∃ t, step s = .next t ∧ t.ScannerDrives ∧ t.host = s.host.seekIfPulled := by
  obtain ⟨t, hstep, ht, hturn⟩ := hs.step_idle (by rw [Scanner.drive, hphase])
  exact ⟨t, hstep, ht, by rw [hturn, Scanner.turn, hphase]⟩

theorem State.ScannerDrives.step_sampled {s : State} (hs : s.ScannerDrives) {attempt : Nat} {w : Word} {x : Sample}
    (hphase : s.host.phase = .validating attempt w (some x)) :
    ∃ t, step s = .next t ∧ t.ScannerDrives ∧ t.host = s.host.frameOrWait attempt w x := by
  obtain ⟨t, hstep, ht, hturn⟩ := hs.step_idle (by rw [Scanner.drive, hphase])
  exact ⟨t, hstep, ht, by rw [hturn, Scanner.turn, hphase]⟩

/-- A presented window that decodes with a defined length is acted on as if its result were at hand (R175). -/
theorem State.ScannerDrives.step_presented {s : State} (hs : s.ScannerDrives) {attempt : Nat} {w : Word} {x : Sample}
    (hphase : s.host.phase = .validating attempt w none) (hx : sampleOf w = some x) :
    ∃ t, step s = .next t ∧ t.ScannerDrives ∧ t.host = s.host.frameOrWait attempt w x := by
  obtain ⟨r, hedge, hports⟩ := clockEdge_of_sampleOf (by rw [hs.pins, Scanner.drive, hphase]) hx
  obtain ⟨t, hstep, ht, hturn⟩ := hs.step_of_clockEdge hedge
  refine ⟨t, hstep, ht, ?_⟩
  rw [hturn, Scanner.turn, hphase]
  simp only [Scanner.validate, hports]

end Sys2Proof.Machine

namespace Sys2Proof.Claims

open Machine

theorem ParsesTo.of_step {s t : State} {frames : List Frame} {consumed : Nat} (hstep : step s = .next t)
    (ht : ParsesTo t frames consumed) : ParsesTo s frames consumed := by
  obtain ⟨k, u, hrun, hdone⟩ := ht
  exact ⟨k + 1, u, by rw [runSteps, hstep, andThen_next, hrun], hdone⟩

theorem ParsesTo.of_done {s : State} (hdone : s.host.phase = .done) :
    ParsesTo s s.host.frames s.host.bytesConsumed :=
  ⟨0, s, rfl, hdone, rfl, rfl⟩

end Sys2Proof.Claims
end

section
/-! What a scanner knows of its stream part way through a parse, and why its reads come to an end (45_host_stream_scanner R170 to R180). -/

namespace Sys2Proof.Machine.Scanner

/-- The scanner has consumed `pos` bytes of `stream` and collected `frames`, its source delivers the rest and then ends, and its caller
pulls throughout (R170, R172, R181). -/
structure Consumed (stream : List Byte) (pos : Nat) (frames : List Frame) (h : Scanner) : Prop where
  cursor : h.cursor = pos
  bytesConsumed : h.bytesConsumed = pos
  collected : h.frames = frames
  stream : h.received ++ h.reads.flatten = stream
  ended : h.endOfInput = true → h.reads = [] ∧ h.sourceEnds = true
  sourceEnds : h.sourceEnds = true
  pulling : h.pulling = true
  pulls : h.pulls = []

namespace Consumed

variable {stream : List Byte} {pos : Nat} {frames : List Frame} {h : Scanner}

theorem withPhase (hc : h.Consumed stream pos frames) (p : Phase) : ({ h with phase := p }).Consumed stream pos frames :=
  { hc with }

theorem readSource (hc : h.Consumed stream pos frames) : h.readSource.Consumed stream pos frames where
  cursor := by rw [readSource_cursor, hc.cursor]
  bytesConsumed := by rw [readSource_bytesConsumed, hc.bytesConsumed]
  collected := by rw [readSource_frames, hc.collected]
  stream := by rw [readSource_stream, hc.stream]
  ended := readSource_ended h hc.ended
  sourceEnds := by rw [readSource_sourceEnds, hc.sourceEnds]
  pulling := by rw [readSource_pulling, hc.pulling]
  pulls := by rw [readSource_pulls, hc.pulls]

/-- The cursor moves past the appended frame, the count with it (R172, R175). -/
theorem append (hc : h.Consumed stream pos frames) (x : Sample) :
    (h.append pos x).Consumed stream (pos + x.length) (frames ++ [frameOf pos x]) where
  cursor := rfl
  bytesConsumed := by rw [append_bytesConsumed, hc.bytesConsumed]
  collected := by rw [append_frames, hc.collected]
  stream := hc.stream
  ended := hc.ended
  sourceEnds := hc.sourceEnds
  pulling := hc.pulling
  pulls := hc.pulls

theorem received_prefix (hc : h.Consumed stream pos frames) : h.received <+: stream :=
  ⟨_, hc.stream⟩

theorem received_of_ended (hc : h.Consumed stream pos frames) (hend : h.endOfInput = true) : h.received = stream := by
  rw [← hc.stream, (hc.ended hend).1, List.flatten_nil, List.append_nil]

theorem seekIfPulled (hc : h.Consumed stream pos frames) : h.seekIfPulled = h.seek := by
  simp [Scanner.seekIfPulled, ask, hc.pulls, hc.pulling]

end Consumed

/-- How many reads are still to come: the deliveries, then the end-of-input signal (R170). -/
def pendingReads (h : Scanner) : Nat := h.reads.length + if h.endOfInput then 0 else 1

theorem pendingReads_readSource {h : Scanner} (hends : h.sourceEnds = true) (hopen : h.endOfInput = false) :
    h.readSource.pendingReads < h.pendingReads := by
  cases hr : h.reads <;> simp [pendingReads, Scanner.readSource, hr, hends, hopen]

theorem seek_of_short {h : Scanner} (hshort : h.received.length < h.cursor + 4) :
    h.seek = if h.endOfInput then h.finish else h.readSource := by
  rw [seek, windowAt_eq_none.2 hshort]

theorem seek_of_sync {h : Scanner} {w : Word} (hw : windowAt h.received h.cursor = some w) (hsync : syncOk w = true) :
    h.seek = { h with phase := .validating h.cursor w none } := by
  simp only [seek, hw, hsync, if_true]

theorem frameOrWait_of_fits {h : Scanner} {pos : Nat} {x : Sample} (hfits : pos + x.length ≤ h.received.length)
    (w : Word) : h.frameOrWait pos w x = h.append pos x := by
  rw [frameOrWait, if_pos hfits]

theorem frameOrWait_of_open {h : Scanner} {pos : Nat} {x : Sample} (hshort : ¬ pos + x.length ≤ h.received.length)
    (hopen : h.endOfInput = false) (w : Word) :
    h.frameOrWait pos w x = { h.readSource with phase := .validating pos w (some x) } := by
  rw [frameOrWait, if_neg hshort, hopen]
  rfl

end Sys2Proof.Machine.Scanner
end

section
/-! A stream of well-formed frames is parsed frame by frame, however it is split into reads (45_host_stream_scanner R180, R185). -/

namespace Sys2Proof.Claims

open Machine

/-- Seeking reads on until the window's four bytes are buffered or the input has ended (R174, R180). -/
theorem ParsesTo.of_seeking {stream : List Byte} {pos : Nat} {frames result : List Frame} {consumed : Nat} {s : State}
    (hs : s.ScannerDrives) (hc : s.host.Consumed stream pos frames) (hphase : s.host.phase = .seeking)
    (ready : ∀ t : State, t.ScannerDrives → t.host.Consumed stream pos frames → t.host.phase = .seeking →
      pos + 4 ≤ t.host.received.length ∨ t.host.endOfInput = true → ParsesTo t result consumed) :
    ParsesTo s result consumed := by
  induction hn : s.host.pendingReads using Nat.strong_induction_on generalizing s with
  | _ n ih =>
    by_cases hready : pos + 4 ≤ s.host.received.length ∨ s.host.endOfInput = true
    · exact ready s hs hc hphase hready
    · obtain ⟨hshort, hopen⟩ := not_or.1 hready
      rw [Bool.not_eq_true] at hopen
      obtain ⟨t, hstep, ht, hhost⟩ := hs.step_seeking hphase
      have hread : t.host = s.host.readSource := by
        rw [hhost, hc.seekIfPulled, Scanner.seek_of_short (by rw [hc.cursor]; omega), hopen]
        rfl
      refine .of_step hstep (ih t.host.pendingReads ?_ ht ?_ ?_ rfl)
      · rw [← hn, hread]
        exact Scanner.pendingReads_readSource hc.sourceEnds hopen
      · exact hread ▸ hc.readSource
      · rw [hread, Scanner.readSource_phase, hphase]

/-- A frame that fits in the stream is appended: Validating reads on until its bytes are buffered, and they are before the input ends (R175,
R180). -/
theorem ParsesTo.of_frameOrWait {stream : List Byte} {pos : Nat} {frames result : List Frame} {consumed : Nat}
    {w : Word} {x : Sample} (hfits : pos + x.length ≤ stream.length) {h : Scanner}
    (hc : h.Consumed stream pos frames) {t : State} (ht : t.ScannerDrives) (hhost : t.host = h.frameOrWait pos w x)
    (appended : ∀ u : State, u.ScannerDrives → u.host.Consumed stream (pos + x.length) (frames ++ [frameOf pos x]) →
      u.host.phase = .seeking → ParsesTo u result consumed) :
    ParsesTo t result consumed := by
  induction hn : h.pendingReads using Nat.strong_induction_on generalizing h t with
  | _ n ih =>
    by_cases hbuffered : pos + x.length ≤ h.received.length
    · rw [Scanner.frameOrWait_of_fits hbuffered] at hhost
      exact appended t ht (hhost ▸ hc.append x) (by rw [hhost]; rfl)
    · have hopen : h.endOfInput = false := by
        by_contra hend
        rw [Bool.not_eq_false] at hend
        exact hbuffered (hc.received_of_ended hend ▸ hfits)
      rw [Scanner.frameOrWait_of_open hbuffered hopen] at hhost
      obtain ⟨u, hstep, hu, huhost⟩ := ht.step_sampled (x := x) (by rw [hhost])
      refine .of_step hstep (ih t.host.pendingReads ?_ ?_ hu huhost rfl)
      · rw [← hn, hhost]
        exact Scanner.pendingReads_readSource hc.sourceEnds hopen
      · exact hhost ▸ hc.readSource.withPhase _

/-- At the end of the stream Seeking finishes with nothing left to count (R179). -/
theorem parsesTo_of_endOfStream {stream : List Byte} {frames : List Frame} {s : State} (hs : s.ScannerDrives)
    (hc : s.host.Consumed stream stream.length frames) (hphase : s.host.phase = .seeking) :
    ParsesTo s frames stream.length := by
  refine .of_seeking hs hc hphase fun t ht hc hphase hready => ?_
  have hend : t.host.endOfInput = true := by
    have := hc.received_prefix.length_le
    exact hready.resolve_left (by omega)
  have hall := hc.received_of_ended hend
  obtain ⟨u, hstep, _, hhost⟩ := ht.step_seeking hphase
  rw [hc.seekIfPulled, Scanner.seek_of_short (by rw [hall, hc.cursor]; omega), hend, if_pos rfl] at hhost
  have hdone : ParsesTo u u.host.frames u.host.bytesConsumed := .of_done (by rw [hhost]; rfl)
  have hcount : u.host.bytesConsumed = stream.length := by
    rw [hhost, Scanner.finish_bytesConsumed, hc.bytesConsumed, hc.cursor, hall, Nat.sub_self, Nat.add_zero]
  rw [hcount, hhost, Scanner.finish_frames, hc.collected] at hdone
  exact .of_step hstep hdone

/-- One well-formed frame at the cursor: the window is found, decoded and appended (R174, R175). -/
theorem ParsesTo.of_frame {before after : List Byte} {f : FrameBytes} {frames result : List Frame} {consumed : Nat}
    {s : State} (hs : s.ScannerDrives) (hphase : s.host.phase = .seeking)
    (hc : s.host.Consumed (before ++ (f.bytes ++ after)) before.length frames)
    (appended : ∀ u : State, u.ScannerDrives →
      u.host.Consumed (before ++ (f.bytes ++ after)) (before.length + f.sample.length)
        (frames ++ [frameOf before.length f.sample]) →
      u.host.phase = .seeking → ParsesTo u result consumed) :
    ParsesTo s result consumed := by
  have hlen : (before ++ (f.bytes ++ after)).length = before.length + f.sample.length + after.length := by
    rw [List.length_append, List.length_append, f.length_bytes, Nat.add_assoc]
  have hfull := f.full
  refine .of_seeking hs hc hphase fun t ht hc hphase hready => ?_
  have hbuffered : before.length + 4 ≤ t.host.received.length := by
    rcases hready with hbuffered | hend
    · exact hbuffered
    · rw [hc.received_of_ended hend, hlen]
      omega
  have hwindow : windowAt t.host.received t.host.cursor = some f.word := by
    rw [hc.cursor]
    refine windowAt_of_prefix hc.received_prefix ?_ hbuffered
    rw [FrameBytes.bytes, List.append_assoc]
    exact windowAt_of_bytesOfWord _ _ _
  have hsync := syncOk_of_hdec_ok (sampleOf_eq_some f.accepted).1
  obtain ⟨u, hstep, hu, huhost⟩ := ht.step_seeking hphase
  rw [hc.seekIfPulled, Scanner.seek_of_sync hwindow hsync] at huhost
  obtain ⟨v, hstep', hv, hvhost⟩ := hu.step_presented (attempt := before.length) (by rw [huhost, hc.cursor]) f.accepted
  exact .of_step hstep (.of_step hstep'
    (.of_frameOrWait (by omega) (huhost ▸ hc.withPhase _) hv hvhost appended))

/-- The induction over the frames that are left: each moves the cursor by its own length (R185). -/
theorem parsesTo_framesAt (fs : List FrameBytes) {before : List Byte} {frames : List Frame} {s : State}
    (hs : s.ScannerDrives) (hphase : s.host.phase = .seeking)
    (hc : s.host.Consumed (before ++ fs.flatMap FrameBytes.bytes) before.length frames) :
    ParsesTo s (frames ++ framesAt before.length fs)
      (before.length + (fs.map (fun f => f.sample.length)).sum) := by
  induction fs generalizing before frames s with
  | nil =>
    rw [List.flatMap_nil, List.append_nil] at hc
    simpa [framesAt] using parsesTo_of_endOfStream hs hc hphase
  | cons f rest ih =>
    rw [List.flatMap_cons] at hc
    refine .of_frame hs hphase hc fun u hu huc huphase => ?_
    rw [← List.append_assoc, ← f.length_bytes, ← List.length_append] at huc
    have hrest := ih hu huphase huc
    rw [List.length_append, f.length_bytes, List.append_assoc, List.singleton_append] at hrest
    rwa [framesAt, List.map_cons, List.sum_cons, ← Nat.add_assoc]

theorem ParseStart.scannerDrives {s : State} {reads : List (List Byte)} (hs : ParseStart s reads) : s.ScannerDrives :=
  ⟨hs.driver, hs.inputs, by rw [hs.pins, hs.host]; rfl⟩

theorem ParseStart.consumed {s : State} {reads : List (List Byte)} (hs : ParseStart s reads) :
    s.host.Consumed reads.flatten 0 [] := by
  rw [hs.host]
  exact ⟨rfl, rfl, rfl, rfl, nofun, rfl, rfl, rfl⟩

/-- Settles O56: nothing is consumed at the start of a parse, and from there the frames are parsed one after another. -/
theorem wellFormedFramesRoundTrip : Obligations.WellFormedFramesRoundTrip := by
  intro s fs reads hs hreads
  have hparse : ParsesTo s ([] ++ framesAt 0 fs) (0 + (fs.map (fun f => f.sample.length)).sum) :=
    parsesTo_framesAt fs (before := []) hs.scannerDrives (by rw [hs.host]; rfl) (hreads ▸ hs.consumed)
  rw [List.nil_append, Nat.zero_add] at hparse
  exact ⟨hparse, length_framesAt 0 fs, headers_framesAt 0 fs⟩

end Sys2Proof.Claims
end

section
/-! A word HDEC rejects runs the row of its earliest failing step, and that row takes the error HDEC takes (40_header_decoder R114,
60_exceptions R211, R212). -/

namespace Sys2Proof

/-- The error a decode step answers, if it fails. -/
def errorOf {α : Type} : Except HeaderError α → Option HeaderError
  | .ok _ => none
  | .error e => some e

@[simp] theorem errorOf_ok {α : Type} (a : α) : errorOf (.ok a) = none := rfl

@[simp] theorem errorOf_error {α : Type} (e : HeaderError) : errorOf (α := α) (.error e) = some e := rfl

/-- The error named by the row a word's fields select at a step. -/
def rowError (f : HeaderFields) (st : DecodeStep) : Option HeaderError := (rowAt f st).bind Instr.raises

@[simp] theorem rowError_version (f : HeaderFields) : rowError f .version = errorOf (decodeVersion f.version) := by
  show (versionRowOf f.version).raises = _
  generalize f.version = c
  revert c; decide

@[simp] theorem rowError_layer (f : HeaderFields) : rowError f .layer = errorOf (decodeLayer f.layer) := by
  show (layerRowOf f.layer).raises = _
  generalize f.layer = c
  revert c; decide

@[simp] theorem rowError_protection (f : HeaderFields) : rowError f .protection = none := protectionRowOf_raises _

/-- Whether step 4 fails does not depend on the version and the layer. -/
theorem rowError_bitrate (f : HeaderFields) (R : Roms) (v : Version) (l : Layer) :
    rowError f .bitrate = errorOf (decodeBitrate R v l f.bitrateIdx) := by
  cases hb : decodeBitrate R v l f.bitrateIdx with
  | ok bps => exact bitrateRowOf_raises (decodeBitrate_ok_ne_invalid hb)
  | error e =>
    obtain ⟨hidx, rfl⟩ := decodeBitrate_error.1 hb
    rw [rowError, rowAt, hidx]
    rfl

/-- Whether step 5 fails does not depend on the version. -/
theorem rowError_srate (f : HeaderFields) (R : Roms) (v : Version) :
    rowError f .srate = errorOf (decodeSampleRate R v f.srateIdx) := by
  cases hs : decodeSampleRate R v f.srateIdx with
  | ok hz => exact srateRowOf_raises (decodeSampleRate_ok_ne_reserved hs)
  | error e =>
    obtain ⟨hidx, rfl⟩ := decodeSampleRate_error.1 hs
    rw [rowError, rowAt, hidx]
    rfl

@[simp] theorem rowError_padding (f : HeaderFields) : rowError f .padding = none := paddingRowOf_raises _

@[simp] theorem rowError_privateBit (f : HeaderFields) : rowError f .privateBit = none := privateBitRowOf_raises _

@[simp] theorem rowError_mode (f : HeaderFields) : rowError f .mode = none := modeRowOf_raises _

@[simp] theorem rowError_modeExt (f : HeaderFields) : rowError f .modeExt = none := by
  cases hm : decodeMode f.mode with
  | jointStereo =>
    cases hl : decodeLayer f.layer with
    | ok l => simpa [rowError, rowAt, hm, hl] using jointExtRowOf_raises l f.modeExt
    | error e => simp [rowError, rowAt, hm, hl]
  | stereo | dualChannel | singleChannel => simp [rowError, rowAt, hm, Instr.raises]

@[simp] theorem rowError_copyright (f : HeaderFields) : rowError f .copyright = none := copyrightRowOf_raises _

@[simp] theorem rowError_original (f : HeaderFields) : rowError f .original = none := originalRowOf_raises _

@[simp] theorem rowError_emphasis (f : HeaderFields) : rowError f .emphasis = errorOf (decodeEmphasis f.emphasis) := by
  show (emphasisRowOf f.emphasis).raises = _
  generalize f.emphasis = c
  revert c; decide

theorem layerIIRowOf_raises {v : Version} {bps : Nat} {m : ChannelMode} {i : Instr}
    (h : layerIIRowOf v bps m = some i) : i.raises = some .prohibitedBitrateChannelCombination := by
  unfold layerIIRowOf at h
  split at h
  -- the last case of the table is every pair without a row
  case h_41 => cases h
  all_goals cases h; rfl

/-- The only error a row of step 11 names (R112). -/
theorem rowError_layerII {f : HeaderFields} {v : Version} {bps : Nat} {e : HeaderError}
    (hv : decodeVersion f.version = .ok v) (hl : decodeLayer f.layer = .ok .layerII)
    (hb : decodeBitrate Config.roms v .layerII f.bitrateIdx = .ok bps) (h : rowError f .layerII = some e) :
    e = .prohibitedBitrateChannelCombination := by
  obtain ⟨i, hrow, hi⟩ := Option.bind_eq_some_iff.1 h
  simp only [rowAt, hv, hl, hb] at hrow
  exact Option.some.inj (hi.symm.trans (layerIIRowOf_raises hrow))

/-- The error of the earliest step whose row fails (R114). -/
def firstRowError (f : HeaderFields) : Option HeaderError := decodeSteps.findSome? (rowError f)

/-- The decoder's search for a failing row finds the row with that error. -/
theorem firstRowError_of_find? {f : HeaderFields} {i : Instr}
    (h : (rowsOf f).find? (fun i => i.raises.isSome) = some i) :
    ∃ e, i.raises = some e ∧ firstRowError f = some e := by
  rw [rowsOf, find?_takeThrough] at h
  have hfirst : firstRowError f = (decodeSteps.filterMap (rowAt f)).findSome? Instr.raises := by
    rw [← List.head?_filterMap, List.filterMap_filterMap, List.head?_filterMap]
    rfl
  obtain ⟨hi, before, after, hsplit, hbefore⟩ := List.find?_eq_some_iff_append.1 h
  obtain ⟨e, he⟩ := Option.isSome_iff_exists.1 hi
  refine ⟨e, he, hfirst.trans (List.findSome?_eq_some_iff.2 ⟨before, i, after, hsplit, he, fun a ha => ?_⟩)⟩
  simpa using hbefore a ha

theorem firstRowError_of_hdec_ok {f : HeaderFields} {h : FrameHeader} (hd : hdec Config.roms f = .ok h) :
    firstRowError f = none := by
  refine List.findSome?_eq_none_iff.2 fun st _ => Option.bind_eq_none_iff.2 fun i hi => ?_
  exact rowAt_raises_of_hdec_ok hd hi

/-- After the sync test, the earliest failing row names HDEC's error. -/
theorem hdec_of_firstRowError {f : HeaderFields} {e : HeaderError} (hsync : f.sync = 0x7FF#11)
    (h : firstRowError f = some e) : hdec Config.roms f = .error e := by
  unfold firstRowError decodeSteps at h
  rcases hdec_cases Config.roms f with ⟨hno, _⟩ | ⟨_, hver, hd⟩ | ⟨v, _, hv, hlay, hd⟩ | ⟨v, l, _, hv, hl, hidx, hd⟩ |
    ⟨v, l, bps, _, hv, hl, hb, hidx, hd⟩ | ⟨v, l, bps, hz, _, hv, hl, hb, hs, hem, hd⟩ |
    ⟨v, bps, hz, em, _, hv, hl, hb, hs, hem, _, hd⟩ | ⟨hdr, hd⟩
  · exact absurd hsync hno
  · simpa [hd, decodeVersion_error.2 ⟨hver, rfl⟩] using h
  · simpa [hd, hv, decodeLayer_error.2 ⟨hlay, rfl⟩] using h
  · simpa [hd, hv, hl, rowError_bitrate f Config.roms v l, decodeBitrate_error.2 ⟨hidx, rfl⟩] using h
  · simpa [hd, hv, hl, rowError_bitrate f Config.roms v l, hb,
      rowError_srate f Config.roms v, decodeSampleRate_error.2 ⟨hidx, rfl⟩] using h
  · simpa [hd, hv, hl, rowError_bitrate f Config.roms v l, hb,
      rowError_srate f Config.roms v, hs, decodeEmphasis_error.2 ⟨hem, rfl⟩] using h
  · have hrow : rowError f .layerII = some e := by
      simpa [hv, hl, rowError_bitrate f Config.roms v .layerII, hb, rowError_srate f Config.roms v, hs,
        hem] using h
    rw [hd, rowError_layerII hv hl hb hrow]
  · cases (firstRowError_of_hdec_ok hd).symm.trans h

end Sys2Proof

namespace Sys2Proof.Machine

/-- A row that names an error takes it, in every state (60_exceptions R212). -/
theorem exec_of_raises {i : Instr} {e : HeaderError} (h : i.raises = some e) (s : State) :
    exec i s = raiseError e s := by
  -- rows that name no error contradict `h`; each of the others is its decode step at a failing code
  cases i <;> cases h <;> rfl

/-- Whichever row the decoder names, the word runs as HDEC on its fields (40_header_decoder R114). -/
theorem exec_decodeWord (w : Word) (s : State) : exec (decodeWord w) s = exec (.hdec (fieldsOf w)) s := by
  unfold decodeWord
  split
  next hsync =>
    cases hrow : (rowsOf (fieldsOf w)).find? (fun i => i.raises.isSome) with
    | none => rfl
    | some i =>
      obtain ⟨e, he, hfirst⟩ := firstRowError_of_find? hrow
      have hd : hdec Config.roms (fieldsOf w) = .error e := hdec_of_firstRowError ((syncOk_iff w).1 hsync) hfirst
      rw [Option.getD_some, exec_of_raises he, exec_hdec_of_error hd, raiseError_eq, ofError_eq_errorRegs]
      rfl
  next => rfl

end Sys2Proof.Machine
end

section
/-! The step rule: what one edge leaves in the result registers, for every state (70_reset_and_hazards R242, R243). -/

namespace Sys2Proof.Machine

open Claims

@[simp] theorem resetEdge_regs (s : State) : (resetEdge s).regs = resetRegs := rfl

/-- Settles O1: the reset edge writes the bank, and the time between two edges writes no result register. -/
theorem resetEdgeWritesResetValues : Obligations.ResetEdgeWritesResetValues := by
  intro s hrst
  exact ⟨_, step_of_clockEdge (clockEdge_rst hrst), by rw [betweenEdges_regs, resetEdge_regs]⟩

/-- The header's bank in the numbers of the statements (30_encoding R72 to R74). -/
theorem withHeader_accepted_eq_headerRegs (r : ResultRegs) (h : FrameHeader) :
    (r.withHeader h).accepted = headerRegs r h := by
  obtain ⟨v, l, _, _, _, _, _, m, j, _, _, e⟩ := h
  have hv : v.code = versionCode v := by cases v <;> rfl
  have hl : l.code = layerCode l := by cases l <;> rfl
  have hm : m.code = modeCode m := by cases m <;> rfl
  have he : e.code = emphasisCode e := by cases e <;> rfl
  have hj : (j.tag, j.band, j.intensity, j.ms) = jseRegs j := by cases j <;> rfl
  simp only [ResultRegs.accepted, ResultRegs.withHeader, headerRegs, hv, hl, hm, he, ← hj]
  rfl

/-- The edge on a word HDEC rejects: FLEN does not run (42_frame_length R160). -/
theorem wordEdge_of_hdec_error {s : State} {e : HeaderError}
    (hd : hdec Config.roms (fieldsOf s.pins.inWord) = .error e) :
    wordEdge s = .next (s.setRegs (.ofError e)) := by
  have failed : e.code ≠ statusOk := by cases e <;> decide
  rw [wordEdge, exec_decodeWord, exec_hdec_of_error hd, andThen_next, ← ofError_eq_errorRegs]
  exact flenStage_error failed

/-- The edge on a word HDEC accepts: FLEN runs on the record the ports give back, which is valid (42_frame_length R160). -/
theorem wordEdge_of_hdec_ok {s : State} {h : FrameHeader} (hd : hdec Config.roms (fieldsOf s.pins.inWord) = .ok h) :
    wordEdge s = .next (s.setRegs ((s.regs.withHeader h).accepted.withLength (flen Config.roms h))) := by
  have valid := hdec_ok_valid hd
  rw [wordEdge, exec_decodeWord, exec_hdec_of_ok hd, andThen_next,
    flenStage_ok (h := h) rfl (by simp [header?_withHeader valid]), exec_flen_of_valid valid]
  rfl

theorem nextRegs_of_rst {p : Pins} (hrst : p.rst = true) (r : ResultRegs) : nextRegs r p = resetRegs := if_pos hrst

theorem nextRegs_of_idle {p : Pins} (hrst : p.rst = false) (hvalid : p.inValid = false) (r : ResultRegs) :
    nextRegs r p = { r with outValid := false } := by
  simp [nextRegs, hrst, hvalid]

theorem nextRegs_of_hdec_error {p : Pins} {e : HeaderError} (hrst : p.rst = false) (hvalid : p.inValid = true)
    (hd : hdec Config.roms (fieldsOf p.inWord) = .error e) (r : ResultRegs) :
    nextRegs r p = errorRegs (statusCode e) := by
  simp [nextRegs, hrst, hvalid, hd]

theorem nextRegs_of_hdec_ok {p : Pins} {h : FrameHeader} (hrst : p.rst = false) (hvalid : p.inValid = true)
    (hd : hdec Config.roms (fieldsOf p.inWord) = .ok h) (r : ResultRegs) :
    nextRegs r p = (headerRegs r h).withLength (flen Config.roms h) := by
  rw [nextRegs, if_neg (by simp [hrst]), if_neg (by simp [hvalid]), hd]
  dsimp only
  cases flen Config.roms h with
  | ok n => rfl
  | error e => cases e; rfl

/-- The edge on a word answers the step rule's registers: the banks of the two cases of HDEC, in numbers. -/
theorem wordEdge_eq_nextRegs {s : State} (hrst : s.pins.rst = false) (hvalid : s.pins.inValid = true) :
    wordEdge s = .next (s.setRegs (nextRegs s.regs s.pins)) := by
  cases hd : hdec Config.roms (fieldsOf s.pins.inWord) with
  | error e => rw [wordEdge_of_hdec_error hd, nextRegs_of_hdec_error hrst hvalid hd, ofError_eq_errorRegs]
  | ok h => rw [wordEdge_of_hdec_ok hd, nextRegs_of_hdec_ok hrst hvalid hd, withHeader_accepted_eq_headerRegs]

/-- One edge completes in every state and writes the result registers only, by the step rule (R243). -/
theorem clockEdge_eq_nextRegs (s : State) : clockEdge s = .next (s.setRegs (nextRegs s.regs s.pins)) := by
  cases hrst : s.pins.rst with
  | true => rw [clockEdge_rst hrst, nextRegs_of_rst hrst]; rfl
  | false =>
    cases hvalid : s.pins.inValid with
    | false => rw [clockEdge_idle hrst hvalid, nextRegs_of_idle hrst hvalid]; rfl
    | true => rw [clockEdge_word hrst hvalid, wordEdge_eq_nextRegs hrst hvalid]

/-- Settles O5: the edge follows the step rule, and the time between two edges writes no result register. -/
theorem edgeFollowsStepRule : Obligations.EdgeFollowsStepRule := fun s =>
  ⟨_, step_of_clockEdge (clockEdge_eq_nextRegs s), by rw [betweenEdges_regs, setRegs_regs]⟩

end Sys2Proof.Machine
end

section
/-! A word and its thirteen fields are the same data (30_encoding R60). -/

namespace Sys2Proof

/-- Taking the join apart one field at a time, from the least significant end. -/
theorem wordOf_injective : Function.Injective wordOf := fun f g h => by
  obtain ⟨h, emphasis⟩ := append_eq_append_iff.1 h
  obtain ⟨h, original⟩ := append_eq_append_iff.1 h
  obtain ⟨h, copyright⟩ := append_eq_append_iff.1 h
  obtain ⟨h, modeExt⟩ := append_eq_append_iff.1 h
  obtain ⟨h, mode⟩ := append_eq_append_iff.1 h
  obtain ⟨h, privateBit⟩ := append_eq_append_iff.1 h
  obtain ⟨h, padding⟩ := append_eq_append_iff.1 h
  obtain ⟨h, srateIdx⟩ := append_eq_append_iff.1 h
  obtain ⟨h, bitrateIdx⟩ := append_eq_append_iff.1 h
  obtain ⟨h, protection⟩ := append_eq_append_iff.1 h
  obtain ⟨h, layer⟩ := append_eq_append_iff.1 h
  obtain ⟨sync, version⟩ := append_eq_append_iff.1 h
  cases f
  cases g
  rw [HeaderFields.mk.injEq]
  exact ⟨sync, version, layer, protection, bitrateIdx, srateIdx, padding, privateBit, mode, modeExt, copyright,
    original, emphasis⟩

/-- Each slice begins where the one below it ends, so joining two neighbours gives the slice of both. -/
@[simp] theorem wordOf_fieldsOf (w : Word) : wordOf (fieldsOf w) = w := by
  have join (start len₁ len₂ : Nat) : w.extractLsb' (start + len₁) len₂ ++ w.extractLsb' start len₁ =
      w.extractLsb' start (len₂ + len₁) :=
    BitVec.extractLsb'_append_extractLsb'_eq_extractLsb' rfl
  calc wordOf (fieldsOf w)
    _ = w.extractLsb' 0 32 := by
      simp only [wordOf, fieldsOf]
      rw [join 19 2 11, join 17 2 13, join 16 1 15, join 12 4 16, join 10 2 20, join 9 1 22, join 8 1 23,
        join 6 2 24, join 4 2 26, join 3 1 28, join 2 1 29, join 0 2 30]
    _ = w := BitVec.extractLsb'_eq_self

@[simp] theorem fieldsOf_wordOf (f : HeaderFields) : fieldsOf (wordOf f) = f :=
  wordOf_injective (wordOf_fieldsOf (wordOf f))

theorem fieldsOf_injective : Function.Injective fieldsOf :=
  Function.LeftInverse.injective wordOf_fieldsOf

/-- Settles O39: the slices of a word join to it, and joining fields loses none of them. -/
theorem fieldsCoverTheWord : Obligations.FieldsCoverTheWord :=
  ⟨wordOf_fieldsOf, fieldsOf_wordOf⟩

end Sys2Proof
end

section
/-! A row's step selects it on exactly the words of its mask and match (30_encoding R76). -/

namespace Sys2Proof

/-- The fields two words have in common under `and`. -/
def HeaderFields.and (f g : HeaderFields) : HeaderFields where
  sync := f.sync &&& g.sync
  version := f.version &&& g.version
  layer := f.layer &&& g.layer
  protection := f.protection &&& g.protection
  bitrateIdx := f.bitrateIdx &&& g.bitrateIdx
  srateIdx := f.srateIdx &&& g.srateIdx
  padding := f.padding &&& g.padding
  privateBit := f.privateBit &&& g.privateBit
  mode := f.mode &&& g.mode
  modeExt := f.modeExt &&& g.modeExt
  copyright := f.copyright &&& g.copyright
  original := f.original &&& g.original
  emphasis := f.emphasis &&& g.emphasis

theorem fieldsOf_and (w m : Word) : fieldsOf (w &&& m) = (fieldsOf w).and (fieldsOf m) := by
  simp only [fieldsOf, HeaderFields.and, BitVec.extractLsb'_and]

/-- A word matches a mask field by field. -/
theorem and_eq_iff_fields {w m v : Word} : w &&& m = v ↔ (fieldsOf w).and (fieldsOf m) = fieldsOf v := by
  rw [← fieldsOf_and, fieldsOf_injective.eq_iff]

/-- The patterns of step 11 mask and match the version, the layer, the bit-rate index and the mode (R112). -/
theorem and_layerII_pattern_iff {f : HeaderFields} {i : Instr} (hsync : f.sync = 0x7FF#11)
    (hi : i.decodeStep = some .layerII) : f.and (fieldsOf i.pattern.1) = fieldsOf i.pattern.2 ↔
      f.version = (fieldsOf i.pattern.2).version ∧ f.layer = 0b10#2 ∧
      f.bitrateIdx = (fieldsOf i.pattern.2).bitrateIdx ∧ f.mode = (fieldsOf i.pattern.2).mode := by
  have hmask : i.pattern.1 = 0xFFFEF0C0#32 := by cases i <;> cases hi <;> rfl
  have hmatch : (fieldsOf i.pattern.2).and (fieldsOf 0xFFFEF0C0#32) = fieldsOf i.pattern.2 ∧
      (fieldsOf i.pattern.2).sync = 0x7FF#11 ∧ (fieldsOf i.pattern.2).layer = 0b10#2 := by
    cases i <;> cases hi <;> exact ⟨rfl, rfl, rfl⟩
  obtain ⟨masked, sync, layer⟩ := hmatch
  have ones2 (x : BitVec 2) : x &&& 3#2 = x := BitVec.and_allOnes
  have ones4 (x : BitVec 4) : x &&& 15#4 = x := BitVec.and_allOnes
  rw [hmask, ← masked]
  generalize fieldsOf i.pattern.2 = g at *
  simp [HeaderFields.and, fieldsOf, hsync, sync, layer, ones2, ones4]

/-- Where step 11 selects a row, steps 2 to 4 have given the row's version, Layer II and its bit rate. -/
theorem rowAt_layerII_eq_some {f : HeaderFields} {i : Instr} (h : rowAt f .layerII = some i) :
    ∃ (v : Version) (idx : Fin 15), f.version = v.code ∧ f.layer = 0b10#2 ∧ f.bitrateIdx = BitVec.ofNat 4 idx ∧
      layerIIRowOf v (Config.roms.bitrate idx (bitrateCol v .layerII)).toNat (decodeMode f.mode) = some i := by
  simp only [rowAt] at h
  split at h
  next v hv hl =>
    split at h
    next bps hb =>
      obtain ⟨idx, hidx, rfl⟩ := decodeBitrate_ok_entry (by decide) hb
      exact ⟨v, idx, (decodeVersion_ok hv).symm, (decodeLayer_ok hl).symm, hidx, h⟩
    next => cases h
  next => cases h

/-- A row of step 11 stands in the table at its own version, index and mode. -/
theorem layerIIRowOf_pattern {v : Version} {idx : Fin 15} {m : ChannelMode} {i : Instr}
    (h : layerIIRowOf v (Config.roms.bitrate idx (bitrateCol v .layerII)).toNat m = some i) :
    (fieldsOf i.pattern.2).version = v.code ∧ (fieldsOf i.pattern.2).bitrateIdx = BitVec.ofNat 4 idx ∧
      (fieldsOf i.pattern.2).mode = m.code := by
  have every : ∀ idx : Fin 15, ∀ i ∈ layerIIRowOf v (Config.roms.bitrate idx (bitrateCol v .layerII)).toNat m,
      (fieldsOf i.pattern.2).version = v.code ∧ (fieldsOf i.pattern.2).bitrateIdx = BitVec.ofNat 4 idx ∧
        (fieldsOf i.pattern.2).mode = m.code := by
    cases v <;> cases m <;> decide
  exact every idx i h

theorem rowAt_layerII_iff_pattern {f : HeaderFields} {i : Instr} (hsync : f.sync = 0x7FF#11)
    (hi : i.decodeStep = some .layerII) :
    rowAt f .layerII = some i ↔ f.and (fieldsOf i.pattern.1) = fieldsOf i.pattern.2 := by
  rw [and_layerII_pattern_iff hsync hi]
  constructor
  · intro hrow
    obtain ⟨v, idx, hv, hl, hidx, hrow⟩ := rowAt_layerII_eq_some hrow
    obtain ⟨pv, pidx, pm⟩ := layerIIRowOf_pattern hrow
    rw [decodeMode_code'] at pm
    exact ⟨hv.trans pv.symm, hl, hidx.trans pidx.symm, pm.symm⟩
  · rintro ⟨hv, hl, hidx, hm⟩
    -- step 11 reads these four fields only, and on the match bits themselves it selects the row
    have own : rowAt (fieldsOf i.pattern.2) .layerII = some i := by cases i <;> cases hi <;> rfl
    have layer : (fieldsOf i.pattern.2).layer = 0b10#2 := by cases i <;> cases hi <;> rfl
    rw [← own]
    simp only [rowAt, hv, hl, hidx, hm, layer]

/-- On a word with sync, a row's step selects it exactly where the word's fields match the row's. -/
theorem rowAt_iff_pattern {f : HeaderFields} {i : Instr} {st : DecodeStep} (hsync : f.sync = 0x7FF#11)
    (hi : i.decodeStep = some st) :
    rowAt f st = some i ↔ f.and (fieldsOf i.pattern.1) = fieldsOf i.pattern.2 := by
  cases i with
  | hdec | flen => cases hi
  -- the first twelve steps read one field, or the three fields of step 8: few enough codes to try them all
  | versionMpeg25 | versionReserved | versionMpeg2 | versionMpeg1 | layerReserved | layerIII | layerII | layerI
  | protectionProtected | protectionUnprotected | bitrateIdx0 | bitrateIdx1 | bitrateIdx2 | bitrateIdx3
  | bitrateIdx4 | bitrateIdx5 | bitrateIdx6 | bitrateIdx7 | bitrateIdx8 | bitrateIdx9 | bitrateIdx10
  | bitrateIdx11 | bitrateIdx12 | bitrateIdx13 | bitrateIdx14 | bitrateIdx15 | srateIdx0 | srateIdx1 | srateIdx2
  | srateIdx3 | padding0 | padding1 | privateBit0 | privateBit1 | modeStereo | modeJointStereo | modeDualChannel
  | modeSingleChannel | modeExtJsLayerI0 | modeExtJsLayerI1 | modeExtJsLayerI2 | modeExtJsLayerI3
  | modeExtJsLayerII0 | modeExtJsLayerII1 | modeExtJsLayerII2 | modeExtJsLayerII3 | modeExtJsLayerIII0
  | modeExtJsLayerIII1 | modeExtJsLayerIII2 | modeExtJsLayerIII3 | modeExtIgnoredStereo
  | modeExtIgnoredDualChannel | modeExtIgnoredSingleChannel | copyright0 | copyright1 | original0 | original1
  | emphasisNone | emphasisMs5015 | emphasisReserved | emphasisCcitJ17 =>
    cases hi
    obtain ⟨_, v, l, p, b, r, d, q, m, x, c, o, e⟩ := f
    subst hsync
    simp [rowAt, HeaderFields.and, Instr.pattern, fieldsOf]
    decide +revert
  | _ =>
    cases hi
    exact rowAt_layerII_iff_pattern hsync rfl

/-- Settles O36: match and mask are compared field by field, and each step reads the fields its rows mask. -/
theorem rowPatternsSelectRows : Obligations.RowPatternsSelectRows := fun w _ _ hs hi =>
  (rowAt_iff_pattern ((syncOk_iff w).1 hs) hi).trans and_eq_iff_fields.symm

end Sys2Proof
end

section
/-! The encoder's word for a record is one that HDEC decodes to it (30_encoding R118, 40_header_decoder R114). -/

namespace Sys2Proof

open Machine

@[simp] theorem decodeFlag_ofBool (b : Bool) : decodeFlag (BitVec.ofBool b) = b := by
  cases b <;> rfl

@[simp] theorem decodeProtection_ofBool_not (b : Bool) : decodeProtection (BitVec.ofBool (!b)) = b := by
  cases b <;> rfl

theorem decodeBitrate_bitrateIdxOf {v : Version} {l : Layer} {bps : Nat}
    (h : validBitRate Config.roms v l bps = true) :
    decodeBitrate Config.roms v l (bitrateIdxOf Config.roms v l bps) = .ok bps := by
  rw [validBitRate, Bool.or_eq_true, beq_iff_eq, List.any_eq_true, ← List.find?_isSome] at h
  unfold bitrateIdxOf
  by_cases h0 : bps = 0
  · rw [if_pos h0, decodeBitrate_zero, h0]
  · obtain ⟨i, hi⟩ := Option.isSome_iff_exists.1 (h.resolve_left h0)
    have entry := List.find?_some hi
    rw [beq_iff_eq] at entry
    simp only [if_neg h0, hi]
    have idx : (BitVec.ofNat 4 i.succ.val).toNat = i.succ.val := by
      rw [BitVec.toNat_ofNat, Nat.mod_eq_of_lt (by omega)]
    have nonzero : BitVec.ofNat 4 i.succ.val ≠ 0#4 := fun hz => by
      rw [hz] at idx
      cases idx
    rw [decodeBitrate_row Config.roms v l nonzero (by omega), ← entry]
    simp only [idx]

theorem decodeSampleRate_srateIdxOf {v : Version} {hz : Nat} (h : validSampleRate Config.roms v hz = true) :
    decodeSampleRate Config.roms v (srateIdxOf Config.roms v hz) = .ok hz := by
  rw [validSampleRate, Bool.and_eq_true, List.any_eq_true, ← List.find?_isSome] at h
  obtain ⟨i, hi⟩ := Option.isSome_iff_exists.1 h.2
  have entry := List.find?_some hi
  rw [beq_iff_eq] at entry
  have idx : (BitVec.ofNat 2 i.val).toNat = i.val := by
    rw [BitVec.toNat_ofNat, Nat.mod_eq_of_lt (by omega)]
  simp only [srateIdxOf, hi]
  rw [decodeSampleRate_row Config.roms v (by omega), ← entry]
  simp only [idx]

theorem decodeModeExt_bits {m : ChannelMode} {l : Layer} {j : JointStereoExt} (h : validJse m l j = true) :
    decodeModeExt m l j.bits = j := by
  cases j with
  | absent => exact decodeModeExt_of_not_joint (by simpa [validJse] using h) l _
  | bandStart n =>
    simp only [validJse, Bool.and_eq_true, beq_iff_eq, bne_iff_ne, List.contains_iff_mem] at h
    obtain ⟨⟨rfl, hl⟩, hn⟩ := h
    have every : ∀ n ∈ [4, 8, 12, 16], 4 * ((BitVec.ofNat 2 (n / 4 - 1)).toNat + 1) = n := by decide
    rw [decodeModeExt_band hl, JointStereoExt.bits, every n hn]
  | stereoFlags i ms =>
    simp only [validJse, Bool.and_eq_true, beq_iff_eq] at h
    obtain ⟨rfl, rfl⟩ := h
    cases i <;> cases ms <;> rfl

/-- Settles O38: each step of HDEC undoes the encoder's choice for its field. -/
theorem flenWordDecodesToRecord : Obligations.FlenWordDecodesToRecord := by
  intro h hwf
  obtain ⟨hbps, hhz, hjse, hpair⟩ := FrameHeader.valid_iff.1 hwf
  rw [encode, fieldsOf_wordOf, hdec_ok_iff]
  exact {
    sync := rfl
    version := decodeVersion_code h.version
    layer := decodeLayer_code h.layer
    hasCrc := (decodeProtection_ofBool_not h.hasCrc).symm
    bitRate := decodeBitrate_bitrateIdxOf hbps
    sampleRate := decodeSampleRate_srateIdxOf hhz
    padded := (decodeFlag_ofBool h.padded).symm
    privateBit := (decodeFlag_ofBool h.privateBit).symm
    mode := (decodeMode_code h.channelMode).symm
    jse := (decodeModeExt_bits hjse).symm
    copyrighted := (decodeFlag_ofBool h.copyrighted).symm
    original := (decodeFlag_ofBool h.original).symm
    emphasis := decodeEmphasis_code h.emphasis
    layerII := checkLayerII_ok.2 hpair }

end Sys2Proof
end

section
/-! Which bits of an accepted word its record depends on (40_header_decoder R118). -/

namespace Sys2Proof

theorem decodeFlag_injective : Function.Injective decodeFlag := by decide

theorem decodeProtection_injective : Function.Injective decodeProtection := by decide

theorem decodeMode_injective : Function.Injective decodeMode := by decide

/-- No default bit rate stands twice in a column. -/
theorem bitrate_column_injective (col : Fin 5) : Function.Injective (fun i => Config.roms.bitrate i col) := by
  revert col; decide

theorem sampleRate_column_injective (col : Fin 3) : Function.Injective (fun i => Config.roms.sampleRate i col) := by
  revert col; decide

theorem decodeBitrate_ok_injective {v : Version} {l : Layer} {idx idx' : BitVec 4} {bps : Nat}
    (h : decodeBitrate Config.roms v l idx = .ok bps) (h' : decodeBitrate Config.roms v l idx' = .ok bps) :
    idx = idx' := by
  obtain ⟨i, rfl, rfl⟩ := decodeBitrate_ok_entry (by decide) h
  obtain ⟨j, rfl, hij⟩ := decodeBitrate_ok_entry (by decide) h'
  rw [bitrate_column_injective _ (BitVec.eq_of_toNat_eq hij)]

theorem decodeSampleRate_ok_injective {v : Version} {sidx sidx' : BitVec 2} {hz : Nat}
    (h : decodeSampleRate Config.roms v sidx = .ok hz) (h' : decodeSampleRate Config.roms v sidx' = .ok hz) :
    sidx = sidx' := by
  have lt := srateIdx_lt (decodeSampleRate_ok_ne_reserved h)
  have lt' := srateIdx_lt (decodeSampleRate_ok_ne_reserved h')
  rw [decodeSampleRate_row _ _ lt, Except.ok.injEq] at h
  rw [decodeSampleRate_row _ _ lt', Except.ok.injEq, ← h] at h'
  exact BitVec.eq_of_toNat_eq (Fin.val_eq_of_eq (sampleRate_column_injective _ (BitVec.eq_of_toNat_eq h'))).symm

theorem decodeModeExt_joint_injective (l : Layer) : Function.Injective (decodeModeExt .jointStereo l) := by
  cases l <;> decide

/-- Every field of a word is read back from its record, the mode extension where it is not ignored. -/
theorem fields_eq_of_same_record {f f' : HeaderFields} {h : FrameHeader} (hd : hdec Config.roms f = .ok h)
    (hd' : hdec Config.roms f' = .ok h) :
    f = { f' with modeExt := f.modeExt } ∧ (f.mode = 0b01#2 → f.modeExt = f'.modeExt) := by
  have ok := hdec_ok_iff.1 hd
  have ok' := hdec_ok_iff.1 hd'
  constructor
  · cases f
    cases f'
    rw [HeaderFields.mk.injEq]
    exact ⟨ok.sync.trans ok'.sync.symm, (decodeVersion_ok ok.version).symm.trans (decodeVersion_ok ok'.version),
      (decodeLayer_ok ok.layer).symm.trans (decodeLayer_ok ok'.layer),
      decodeProtection_injective (ok.hasCrc.symm.trans ok'.hasCrc), decodeBitrate_ok_injective ok.bitRate ok'.bitRate,
      decodeSampleRate_ok_injective ok.sampleRate ok'.sampleRate,
      decodeFlag_injective (ok.padded.symm.trans ok'.padded),
      decodeFlag_injective (ok.privateBit.symm.trans ok'.privateBit), decodeMode_injective (ok.mode.symm.trans ok'.mode),
      rfl, decodeFlag_injective (ok.copyrighted.symm.trans ok'.copyrighted),
      decodeFlag_injective (ok.original.symm.trans ok'.original),
      (decodeEmphasis_ok ok.emphasis).symm.trans (decodeEmphasis_ok ok'.emphasis)⟩
  · intro hm
    have joint : h.channelMode = .jointStereo := ok.mode.trans (decodeMode_jointStereo_iff.2 hm)
    have same := ok.jse.symm.trans ok'.jse
    rw [joint] at same
    exact decodeModeExt_joint_injective h.layer same

/-- The mask of all bits but 5:4 clears the mode extension and keeps every other field. -/
theorem fieldsOf_and_modeExt_mask (w : Word) :
    fieldsOf (w &&& 0xFFFFFFCF#32) = { fieldsOf w with modeExt := 0#2 } := by
  rw [fieldsOf_and, HeaderFields.and, HeaderFields.mk.injEq]
  exact ⟨BitVec.and_allOnes, BitVec.and_allOnes, BitVec.and_allOnes, BitVec.and_allOnes, BitVec.and_allOnes,
    BitVec.and_allOnes, BitVec.and_allOnes, BitVec.and_allOnes, BitVec.and_allOnes, BitVec.and_zero,
    BitVec.and_allOnes, BitVec.and_allOnes, BitVec.and_allOnes⟩

theorem and_modeExt_mask_eq_iff {w w' : Word} : w &&& 0xFFFFFFCF#32 = w' &&& 0xFFFFFFCF#32 ↔
    fieldsOf w = { fieldsOf w' with modeExt := (fieldsOf w).modeExt } := by
  rw [← fieldsOf_injective.eq_iff, fieldsOf_and_modeExt_mask, fieldsOf_and_modeExt_mask]
  generalize fieldsOf w = f
  generalize fieldsOf w' = f'
  cases f
  cases f'
  simp

/-- Settles O12: the record gives back every bit of the word but an ignored mode extension, and that it does not depend on. -/
theorem equalRecordsFromWords : Obligations.EqualRecordsFromWords := by
  intro w w' h h' hd hd'
  constructor
  · rintro rfl
    obtain ⟨hfields, hext⟩ := fields_eq_of_same_record hd hd'
    by_cases hm : (fieldsOf w).mode = 0b01#2
    · left
      rw [hext hm] at hfields
      exact fieldsOf_injective hfields
    · have same : (fieldsOf w).mode = (fieldsOf w').mode := by rw [hfields]
      exact .inr ⟨same, hm, and_modeExt_mask_eq_iff.2 hfields⟩
  · rintro (rfl | ⟨-, hm, hmask⟩)
    · exact Except.ok.inj (hd.symm.trans hd')
    · have ok := hdec_ok_iff.1 hd
      have notJoint : h.channelMode ≠ .jointStereo := ok.mode ▸ mt decodeMode_jointStereo_iff.1 hm
      have absent (x : BitVec 2) : h.jointStereoExt = decodeModeExt h.channelMode h.layer x := by
        rw [ok.jse, decodeModeExt_of_not_joint notJoint, decodeModeExt_of_not_joint notJoint]
      have hd'' := hdec_modeExt hd (fieldsOf w').modeExt
      rw [← absent, and_modeExt_mask_eq_iff.1 hmask] at hd''
      exact Except.ok.inj (hd''.symm.trans hd')

end Sys2Proof
end

section
/-! HDEC's seven errors, one for each step that can fail (40_header_decoder R114, 30_encoding R76). -/

namespace Sys2Proof

theorem decodeMode_singleChannel_iff {c : BitVec 2} : decodeMode c = .singleChannel ↔ c = 0b11#2 := by
  revert c; decide

theorem decodeLayer_layerII_iff {c : BitVec 2} : decodeLayer c = .ok .layerII ↔ c = 0b10#2 := by
  revert c; decide

/-- The pairs of R112, on the bits of the mode. -/
theorem prohibitedPair_decodeMode_iff {bps : Nat} {c : BitVec 2} : prohibitedPair bps (decodeMode c) = true ↔
    (c ≠ 0b11#2 ∧ bps ∈ [32000, 48000, 56000, 80000]) ∨ (c = 0b11#2 ∧ bps ∈ [224000, 256000, 320000, 384000]) := by
  rw [prohibitedPair_iff, ne_eq, decodeMode_singleChannel_iff]

theorem not_prohibited_of_hdec_ok {R : Roms} {f : HeaderFields} {h : FrameHeader} (hd : hdec R f = .ok h)
    (hlayer : f.layer = 0b10#2) {v : Version} {bps : Nat} (hv : decodeVersion f.version = .ok v)
    (hb : decodeBitrate R v .layerII f.bitrateIdx = .ok bps) : prohibitedPair bps (decodeMode f.mode) = false := by
  have ok := hdec_ok_iff.1 hd
  have version : h.version = v := Except.ok.inj (ok.version.symm.trans hv)
  have layer : h.layer = .layerII := Except.ok.inj (ok.layer.symm.trans (decodeLayer_layerII_iff.2 hlayer))
  have rate : h.bitRateBps = bps := by
    have := ok.bitRate
    rw [version, layer, hb] at this
    exact (Except.ok.inj this).symm
  have check := checkLayerII_ok.1 ok.layerII
  rw [ok.mode, rate] at check
  simpa [layer] using check

/-- Settles O9: HDEC's cases fail at one step each, and the conditions of the seven errors exclude one another. -/
theorem hdecReportsEarliestFailingStep : Obligations.HdecReportsEarliestFailingStep := by
  intro R f
  simp only [← prohibitedPair_decodeMode_iff]
  rcases hdec_cases R f with ⟨hs, hd⟩ | ⟨hs, hv, hd⟩ | ⟨v, hs, hv, hl, hd⟩ | ⟨v, l, hs, hv, hl, hb, hd⟩ |
    ⟨v, l, bps, hs, hv, hl, hb, hr, hd⟩ | ⟨v, l, bps, hz, hs, hv, hl, hb, hr, he, hd⟩ |
    ⟨v, bps, hz, e, hs, hv, hl, hb, hr, he, hp, hd⟩ | ⟨h, hd⟩
  · simp [hd, hs]
  · simp [hd, hs, hv]
  · simp [hd, hs, hl, decodeVersion_ok_ne_reserved hv]
  · simp [hd, hs, hb, decodeVersion_ok_ne_reserved hv, decodeLayer_ok_ne_reserved hl]
  · simp [hd, hs, hr, decodeVersion_ok_ne_reserved hv, decodeLayer_ok_ne_reserved hl, decodeBitrate_ok_ne_invalid hb]
  · simp [hd, hs, he, decodeVersion_ok_ne_reserved hv, decodeLayer_ok_ne_reserved hl, decodeBitrate_ok_ne_invalid hb,
      decodeSampleRate_ok_ne_reserved hr]
  · simp [hd, hs, decodeVersion_ok_ne_reserved hv, decodeLayer_layerII_iff.1 hl, decodeBitrate_ok_ne_invalid hb,
      decodeSampleRate_ok_ne_reserved hr, decodeEmphasis_ok_ne_reserved he, hv, hb, hp]
  · have ok := hdec_ok_iff.1 hd
    have allowed : ¬ (f.layer = 0b10#2 ∧ ∃ v bps, decodeVersion f.version = .ok v ∧
        decodeBitrate R v .layerII f.bitrateIdx = .ok bps ∧ prohibitedPair bps (decodeMode f.mode) = true) := by
      rintro ⟨hlayer, v, bps, hv, hb, hp⟩
      rw [not_prohibited_of_hdec_ok hd hlayer hv hb] at hp
      cases hp
    simpa [hd, ok.sync, decodeVersion_ok_ne_reserved ok.version, decodeLayer_ok_ne_reserved ok.layer,
      decodeBitrate_ok_ne_invalid ok.bitRate, decodeSampleRate_ok_ne_reserved ok.sampleRate,
      decodeEmphasis_ok_ne_reserved ok.emphasis] using allowed

theorem hdec_syncWordMissing_iff {R : Roms} {f : HeaderFields} :
    hdec R f = .error .syncWordMissing ↔ f.sync ≠ 0x7FF#11 :=
  (hdecReportsEarliestFailingStep R f).1

end Sys2Proof
end

section
/-! The encoder puts each row on a word that goes through it, and the decoder reads HDEC's words and the error rows back (30_encoding R76, R77). -/

namespace Sys2Proof

theorem decode_bytesOfWord (w : Word) (rest : List Byte) : decode (bytesOfWord w ++ rest) = .ok (decodeWord w, rest) := by
  show decode (_ :: _ :: _ :: _ :: rest) = _
  rw [decode_four_bytes, wordOfBytes_bytesOfWord]

theorem decodeWord_of_no_sync {w : Word} (h : (fieldsOf w).sync ≠ 0x7FF#11) : decodeWord w = .hdec (fieldsOf w) :=
  if_neg (mt (syncOk_iff w).1 h)

/-- The decoder answers HDEC on a word HDEC accepts and on a word without sync. -/
theorem decodeWord_wordOf_of_wf {f : HeaderFields} (h : (Instr.hdec f).wf = true) : decodeWord (wordOf f) = .hdec f := by
  cases hd : hdec Config.roms f with
  | ok hdr => rw [decodeWord_of_hdec_ok (by rw [fieldsOf_wordOf, hd]), fieldsOf_wordOf]
  | error e =>
    simp only [Instr.wf, hd, beq_iff_eq] at h
    subst h
    have noSync : f.sync ≠ 0x7FF#11 := hdec_syncWordMissing_iff.1 hd
    rw [decodeWord_of_no_sync (by rwa [fieldsOf_wordOf]), fieldsOf_wordOf]

/-- An error row's word fails at that row first: the fill fails nowhere. -/
theorem decodeWord_encode_of_raises {i : Instr} {e : HeaderError} (h : i.raises = some e) : decodeWord (encode i) = i := by
  cases i <;> cases h <;> rfl

theorem hdec_encode_of_not_raises {i : Instr} {st : DecodeStep} (hst : i.decodeStep = some st) (h : i.raises = none) :
    ∃ hdr, hdec Config.roms (fieldsOf (encode i)) = .ok hdr := by
  cases i <;> cases hst <;> cases h <;> exact ⟨_, rfl⟩

theorem encode_matches_pattern {i : Instr} {st : DecodeStep} (hst : i.decodeStep = some st) :
    syncOk (encode i) = true ∧ encode i &&& i.pattern.1 = i.pattern.2 := by
  cases i <;> cases hst <;> exact ⟨rfl, rfl⟩

theorem takeThrough_of_forall_not {α : Type} {p : α → Bool} {l : List α} (h : ∀ a ∈ l, p a = false) : takeThrough p l = l := by
  induction l with
  | nil => rfl
  | cons a as ih =>
    rw [List.forall_mem_cons] at h
    rw [takeThrough, h.1, ih h.2]
    rfl

theorem mem_decodeSteps (st : DecodeStep) : st ∈ decodeSteps := by
  cases st <;> decide

/-- A row that names no error stands in its word's rows: none of them fails. -/
theorem mem_rowsOf_of_not_raises {i : Instr} {st : DecodeStep} (hst : i.decodeStep = some st) (h : i.raises = none) :
    i ∈ rowsOf (fieldsOf (encode i)) := by
  obtain ⟨hdr, hd⟩ := hdec_encode_of_not_raises hst h
  have noError : ∀ j ∈ decodeSteps.filterMap (rowAt (fieldsOf (encode i))), j.raises.isSome = false := by
    intro j hj
    obtain ⟨st', _, hrow⟩ := List.mem_filterMap.1 hj
    rw [rowAt_raises_of_hdec_ok hd hrow, Option.isSome_none]
  obtain ⟨hsync, hmatch⟩ := encode_matches_pattern hst
  rw [rowsOf, takeThrough_of_forall_not noError]
  exact List.mem_filterMap.2 ⟨st, mem_decodeSteps st, (rowPatternsSelectRows _ i st hsync hst).2 hmatch⟩

/-- An error row stands in its word's rows: the decoder finds it there. -/
theorem mem_rowsOf_of_raises {i : Instr} {st : DecodeStep} {e : HeaderError} (hst : i.decodeStep = some st)
    (h : i.raises = some e) : i ∈ rowsOf (fieldsOf (encode i)) := by
  have found := decodeWord_encode_of_raises h
  rw [decodeWord, if_pos (encode_matches_pattern hst).1] at found
  cases hrow : (rowsOf (fieldsOf (encode i))).find? (fun j => j.raises.isSome) with
  | none =>
    rw [hrow, Option.getD_none] at found
    rw [← found] at hst
    cases hst
  | some j =>
    rw [hrow, Option.getD_some] at found
    have mem := List.mem_of_find?_eq_some hrow
    rwa [found] at mem

/-- Settles O37: four bytes decode as their word, HDEC's words and the error rows are read back, and every row lies on its word's path. -/
theorem decodeEncodeRoundTrip : Obligations.DecodeEncodeRoundTrip := by
  refine ⟨fun i rest hwf hi => ?_, fun i hi => ?_⟩
  · rw [decode_bytesOfWord]
    rcases hi with hraises | ⟨f, rfl⟩
    · obtain ⟨e, he⟩ := Option.isSome_iff_exists.1 hraises
      rw [decodeWord_encode_of_raises he]
    · rw [encode, decodeWord_wordOf_of_wf hwf]
  · obtain ⟨st, hst⟩ := Option.isSome_iff_exists.1 hi
    cases hraises : i.raises with
    | none => exact mem_rowsOf_of_not_raises hst hraises
    | some e => exact mem_rowsOf_of_raises hst hraises

/-- Settles O42: each word is decoded. -/
theorem sampleWordsDecode : Obligations.SampleWordsDecode := by
  unfold Obligations.SampleWordsDecode
  decide

/-- Settles O35: this is what the decoder's choice of a row has been shown not to change (40_header_decoder R114). -/
theorem decodedWordRunsAsHdec : Obligations.DecodedWordRunsAsHdec := Machine.exec_decodeWord

end Sys2Proof
end

section
/-! ROM reads: the entry at a populated address, nothing elsewhere, and the reads a transaction makes (20_memory R45 to R47, 41_lookup_tables R137). -/

namespace Sys2Proof

theorem memRead_bitrateRom (R : Roms) (col : Fin 5) (idx : Fin 15) :
    memRead R .bitrateRom (16 * col.val + idx.val) = some (R.bitrate idx col).toNat := by
  have low : (16 * col.val + idx.val) % 16 = idx.val := by omega
  have high : (16 * col.val + idx.val) / 16 = col.val := by omega
  simp [memRead, low, high]

theorem memRead_sampleRateRom (R : Roms) (vcol sidx : Fin 3) :
    memRead R .sampleRateRom (4 * vcol.val + sidx.val) = some (R.sampleRate sidx vcol).toNat := by
  have low : (4 * vcol.val + sidx.val) % 4 = sidx.val := by omega
  have high : (4 * vcol.val + sidx.val) / 4 = vcol.val := by omega
  simp [memRead, low, high]

theorem memRead_spfRom (R : Roms) (lrow vcol : Fin 3) :
    memRead R .spfRom (4 * lrow.val + vcol.val) = some (R.spf lrow vcol).toNat := by
  have low : (4 * lrow.val + vcol.val) % 4 = vcol.val := by omega
  have high : (4 * lrow.val + vcol.val) / 4 = lrow.val := by omega
  simp [memRead, low, high]

theorem sampleRateAddr_toNat (vcol sidx : BitVec 2) : (sampleRateAddr vcol sidx).toNat = 4 * vcol.toNat + sidx.toNat := by
  rw [sampleRateAddr, toNat_append_eq_mul_add]
  omega

theorem spfAddr_toNat (lrow vcol : BitVec 2) : (spfAddr lrow vcol).toNat = 4 * lrow.toNat + vcol.toNat := by
  rw [spfAddr, toNat_append_eq_mul_add]
  omega

/-- A column and an index fit the bits of the address they form (R45). -/
theorem bitrateAddr_ofNat (col : Fin 5) (idx : BitVec 4) :
    (bitrateAddr (BitVec.ofNat 3 col.val) idx).toNat = 16 * col.val + idx.toNat := by
  rw [bitrateAddr_toNat, BitVec.toNat_ofNat, Nat.mod_eq_of_lt (by omega)]

theorem sampleRateAddr_ofNat (vcol : Fin 3) (sidx : BitVec 2) :
    (sampleRateAddr (BitVec.ofNat 2 vcol.val) sidx).toNat = 4 * vcol.val + sidx.toNat := by
  rw [sampleRateAddr_toNat, BitVec.toNat_ofNat, Nat.mod_eq_of_lt (by omega)]

theorem spfAddr_ofNat (lrow vcol : Fin 3) :
    (spfAddr (BitVec.ofNat 2 lrow.val) (BitVec.ofNat 2 vcol.val)).toNat = 4 * lrow.val + vcol.val := by
  rw [spfAddr_toNat, BitVec.toNat_ofNat, BitVec.toNat_ofNat, Nat.mod_eq_of_lt (by omega), Nat.mod_eq_of_lt (by omega)]

/-- Settles O44: an address splits into the two fields it was joined from, and a field out of range names no entry. -/
theorem memReadIsDefinedOnPopulatedEntries : Obligations.MemReadIsDefinedOnPopulatedEntries := by
  intro R
  refine ⟨fun col idx => ?_, fun col idx h => ?_, fun v x => ?_, fun v x h => ?_, fun l v => ?_, fun l v h => ?_⟩
  · rw [bitrateAddr_ofNat, BitVec.toNat_ofNat, Nat.mod_eq_of_lt (by omega), memRead_bitrateRom]
  · have unpopulated : ¬ ((16 * col.toNat + idx.toNat) % 16 < 15 ∧ (16 * col.toNat + idx.toNat) / 16 < 5) := by
      bv_omega
    rw [bitrateAddr_toNat, memRead, dif_neg unpopulated]
  · rw [sampleRateAddr_ofNat, BitVec.toNat_ofNat, Nat.mod_eq_of_lt (by omega), memRead_sampleRateRom]
  · have unpopulated : ¬ ((4 * v.toNat + x.toNat) % 4 < 3 ∧ (4 * v.toNat + x.toNat) / 4 < 3) := by bv_omega
    rw [sampleRateAddr_toNat, memRead, dif_neg unpopulated]
  · rw [spfAddr_ofNat, memRead_spfRom]
  · have unpopulated : ¬ ((4 * l.toNat + v.toNat) / 4 < 3 ∧ (4 * l.toNat + v.toNat) % 4 < 3) := by bv_omega
    rw [spfAddr_toNat, memRead, dif_neg unpopulated]

/-- Each column of the default bit rates rises from row to row (41_lookup_tables R132). -/
theorem bitrate_column_monotone (col : Fin 5) : Monotone (fun i => (Config.roms.bitrate i col).toNat) := by
  rw [Fin.monotone_iff_le_succ]
  revert col; decide

/-- Settles O45: each fact of R138 is a finite look at the default tables. -/
theorem defaultRomsAreAdmissible : Obligations.DefaultRomsAreAdmissible := by
  refine ⟨?_, fun col _ _ hij => bitrate_column_monotone col hij⟩
  exact {
    freeRow := by decide
    has128k := ⟨9, rfl⟩
    has320k := ⟨13, .inl rfl⟩
    rate44100 := rfl
    halving := by decide
    nonzero := by decide
    spfExact := by decide }

theorem decodeBitrate_eq_memRead {R : Roms} {v : Version} {l : Layer} {idx : BitVec 4} {bps : Nat} (h0 : idx ≠ 0#4)
    (h : decodeBitrate R v l idx = .ok bps) :
    memRead R .bitrateRom (16 * (bitrateCol v l).val + idx.toNat) = some bps := by
  have lt := bitrateIdx_lt (decodeBitrate_ok_ne_invalid h)
  rw [decodeBitrate_row R v l h0 lt, Except.ok.injEq] at h
  rw [← h]
  exact memRead_bitrateRom R (bitrateCol v l) ⟨idx.toNat, lt⟩

theorem decodeSampleRate_eq_memRead {R : Roms} {v : Version} {sidx : BitVec 2} {hz : Nat}
    (h : decodeSampleRate R v sidx = .ok hz) :
    memRead R .sampleRateRom (4 * v.vcol.val + sidx.toNat) = some hz := by
  have lt := srateIdx_lt (decodeSampleRate_ok_ne_reserved h)
  rw [decodeSampleRate_row R v lt, Except.ok.injEq] at h
  rw [← h]
  exact memRead_sampleRateRom R v.vcol ⟨sidx.toNat, lt⟩

/-- The read of step 4: none at index 0 (log 25). -/
def bitrateReads (v : Version) (l : Layer) (idx : BitVec 4) : List RomAccess :=
  if idx = 0#4 then [] else [⟨.bitrateRom, 16 * (bitrateCol v l).val + idx.toNat⟩]

/-- The read of step 5: none at the reserved index. -/
def sampleRateReads (v : Version) (sidx : BitVec 2) : List RomAccess :=
  if sidx.toNat < 3 then [⟨.sampleRateRom, 4 * v.vcol.val + sidx.toNat⟩] else []

/-- HDEC reads nothing, or what steps 4 and 5 read (R137). -/
theorem hdecReads_cases (f : HeaderFields) : hdecReads f = [] ∨ ∃ v l, f.bitrateIdx.toNat < 15 ∧
    hdecReads f = bitrateReads v l f.bitrateIdx ++ sampleRateReads v f.srateIdx := by
  unfold hdecReads
  split
  next v l _ _ _ =>
    split
    next lt => exact .inr ⟨v, l, lt, by rw [bitrateAddr_ofNat, sampleRateAddr_ofNat]; rfl⟩
    next => exact .inl rfl
  next => exact .inl rfl

theorem hdecReads_of_hdec_ok {R : Roms} {f : HeaderFields} {h : FrameHeader} (hd : hdec R f = .ok h) :
    hdecReads f = bitrateReads h.version h.layer f.bitrateIdx ++
      [⟨.sampleRateRom, 4 * h.version.vcol.val + f.srateIdx.toNat⟩] := by
  have ok := hdec_ok_iff.1 hd
  have idx := bitrateIdx_lt (decodeBitrate_ok_ne_invalid ok.bitRate)
  have sidx := srateIdx_lt (decodeSampleRate_ok_ne_reserved ok.sampleRate)
  simp only [hdecReads, checkSync_ok.2 ok.sync, ok.version, ok.layer, idx, sidx, if_true, bitrateAddr_ofNat,
    sampleRateAddr_ofNat]
  rfl

theorem bitrateReads_populated (R : Roms) {v : Version} {l : Layer} {idx : BitVec 4} (lt : idx.toNat < 15) :
    ∀ a ∈ bitrateReads v l idx, (memRead R a.space a.addr).isSome = true := by
  unfold bitrateReads
  split
  · exact nofun
  · rw [List.forall_mem_singleton, memRead_bitrateRom R (bitrateCol v l) ⟨idx.toNat, lt⟩, Option.isSome_some]

theorem sampleRateReads_populated (R : Roms) (v : Version) (sidx : BitVec 2) :
    ∀ a ∈ sampleRateReads v sidx, (memRead R a.space a.addr).isSome = true := by
  unfold sampleRateReads
  split
  next lt => rw [List.forall_mem_singleton, memRead_sampleRateRom R v.vcol ⟨sidx.toNat, lt⟩, Option.isSome_some]
  next => exact nofun

theorem bitrateReads_length_le (v : Version) (l : Layer) (idx : BitVec 4) : (bitrateReads v l idx).length ≤ 1 := by
  unfold bitrateReads
  split
  · exact Nat.zero_le 1
  · exact le_rfl

theorem sampleRateReads_length_le (v : Version) (sidx : BitVec 2) : (sampleRateReads v sidx).length ≤ 1 := by
  unfold sampleRateReads
  split
  · exact le_rfl
  · exact Nat.zero_le 1

/-- Settles O43: the reads of steps 4 and 5 are at populated addresses, and on an accepted word each gives its step's value. -/
theorem romReadsAreTheListedOnes : Obligations.RomReadsAreTheListedOnes := by
  intro R f
  refine ⟨?populated, ?count, fun h hd h0 => ?free, fun h hd h0 => ?entry, fun h => ⟨fun h0 => if_pos h0, fun h0 => ?spf⟩⟩
  case populated =>
    rcases hdecReads_cases f with hnone | ⟨v, l, lt, hreads⟩
    · rw [hnone]; exact nofun
    · rw [hreads, List.forall_mem_append]
      exact ⟨bitrateReads_populated R lt, sampleRateReads_populated R v f.srateIdx⟩
  case count =>
    rcases hdecReads_cases f with hnone | ⟨v, l, lt, hreads⟩
    · rw [hnone]; exact Nat.zero_le 2
    · rw [hreads, List.length_append]
      exact Nat.add_le_add (bitrateReads_length_le v l f.bitrateIdx) (sampleRateReads_length_le v f.srateIdx)
  case free =>
    rw [hdecReads_of_hdec_ok hd, bitrateReads, if_pos h0, List.nil_append, List.map_singleton,
      decodeSampleRate_eq_memRead (hdec_ok_iff.1 hd).sampleRate]
  case entry =>
    have ok := hdec_ok_iff.1 hd
    rw [hdecReads_of_hdec_ok hd, bitrateReads, if_neg h0, List.singleton_append, List.map_cons, List.map_singleton,
      decodeBitrate_eq_memRead h0 ok.bitRate, decodeSampleRate_eq_memRead ok.sampleRate]
  case spf =>
    rw [flenReads, if_neg h0, List.map_singleton, spfAddr_ofNat, memRead_spfRom]
    rfl

end Sys2Proof
end

section
/-! What an accepted word's record holds, and that it reads back from the output registers (30_encoding R72 to R75, 40_header_decoder R115). -/

namespace Sys2Proof

open Claims

theorem versionCode_of_decodeVersion {c : BitVec 2} {v : Version} (h : decodeVersion c = .ok v) : versionCode v = c := by
  rw [← decodeVersion_ok h]
  cases v <;> rfl

theorem layerCode_of_decodeLayer {c : BitVec 2} {l : Layer} (h : decodeLayer c = .ok l) : layerCode l = c := by
  rw [← decodeLayer_ok h]
  cases l <;> rfl

theorem modeCode_decodeMode (c : BitVec 2) : modeCode (decodeMode c) = c := by
  revert c; decide

theorem emphasisCode_of_decodeEmphasis {c : BitVec 2} {e : Emphasis} (h : decodeEmphasis c = .ok e) :
    emphasisCode e = c := by
  rw [← decodeEmphasis_ok h]
  cases e <;> rfl

theorem decodeFlag_eq_true_iff {b : BitVec 1} : decodeFlag b = true ↔ b = 1#1 := by
  revert b; decide

theorem decodeProtection_eq_true_iff {b : BitVec 1} : decodeProtection b = true ↔ b = 0#1 := by
  revert b; decide

/-- Settles O10: an accepting HDEC says of each field which step gave it, and the two rates are ROM reads. -/
theorem hdecAssemblesEveryField : Obligations.HdecAssemblesEveryField := by
  intro R f h hd
  have ok := hdec_ok_iff.1 hd
  refine ⟨versionCode_of_decodeVersion ok.version, layerCode_of_decodeLayer ok.layer,
    ok.mode ▸ modeCode_decodeMode f.mode, emphasisCode_of_decodeEmphasis ok.emphasis,
    ok.hasCrc ▸ decodeProtection_eq_true_iff, ok.padded ▸ decodeFlag_eq_true_iff,
    ok.privateBit ▸ decodeFlag_eq_true_iff, ok.copyrighted ▸ decodeFlag_eq_true_iff,
    ok.original ▸ decodeFlag_eq_true_iff, fun h0 => ?_, fun h0 => decodeBitrate_eq_memRead h0 ok.bitRate,
    decodeSampleRate_eq_memRead ok.sampleRate, fun hm => ?_, fun hm hl => ?_, fun hm hl => ?_⟩
  · have rate := ok.bitRate
    rw [h0, decodeBitrate_zero] at rate
    exact (Except.ok.inj rate).symm
  · rw [ok.jse, decodeModeExt_of_not_joint hm]
  · rw [ok.jse, hm, decodeModeExt_band hl]
  · rw [ok.jse, hm, hl, decodeModeExt_layerIII]

theorem decodeBitrate_ok_row {R : Roms} {v : Version} {l : Layer} {idx : BitVec 4} {bps : Nat}
    (h : decodeBitrate R v l idx = .ok bps) :
    bps = 0 ∨ ∃ i : Fin 14, bps = (R.bitrate i.succ (bitrateCol v l)).toNat := by
  by_cases h0 : idx = 0#4
  · subst h0
    rw [decodeBitrate_zero, Except.ok.injEq] at h
    exact .inl h.symm
  · have lt := bitrateIdx_lt (decodeBitrate_ok_ne_invalid h)
    rw [decodeBitrate_row R v l h0 lt, Except.ok.injEq] at h
    have ne : (⟨idx.toNat, lt⟩ : Fin 15) ≠ 0 := fun hz => by
      have val : idx.toNat = 0 := congrArg Fin.val hz
      exact h0 (BitVec.eq_of_toNat_eq val)
    obtain ⟨i, hi⟩ := Fin.exists_succ_eq.2 ne
    exact .inr ⟨i, by rw [hi, h]⟩

theorem decodeSampleRate_ok_row {R : Roms} {v : Version} {sidx : BitVec 2} {hz : Nat}
    (h : decodeSampleRate R v sidx = .ok hz) : ∃ i, hz = (R.sampleRate i v.vcol).toNat := by
  rw [decodeSampleRate_row R v (srateIdx_lt (decodeSampleRate_ok_ne_reserved h)), Except.ok.injEq] at h
  exact ⟨_, h.symm⟩

theorem decodeModeExt_eq_absent_iff {m : ChannelMode} {l : Layer} {x : BitVec 2} :
    decodeModeExt m l x = .absent ↔ m ≠ .jointStereo := by
  cases m <;> cases l <;> simp [decodeModeExt]

theorem decodeModeExt_eq_bandStart_iff {m : ChannelMode} {l : Layer} {x : BitVec 2} :
    (∃ n ∈ [4, 8, 12, 16], decodeModeExt m l x = .bandStart n) ↔
      m = .jointStereo ∧ (l = .layerI ∨ l = .layerII) := by
  have listed : 4 * (x.toNat + 1) ∈ [4, 8, 12, 16] := by revert x; decide
  cases m <;> cases l <;> simp [decodeModeExt] <;> simpa using listed

theorem decodeModeExt_eq_stereoFlags_iff {m : ChannelMode} {l : Layer} {x : BitVec 2} :
    (∃ i s, decodeModeExt m l x = .stereoFlags i s) ↔ m = .jointStereo ∧ l = .layerIII := by
  cases m <;> cases l <;> simp [decodeModeExt]

/-- Whatever the sample rates are, HDEC's record is valid if none of them is 0 (R115, R138). -/
theorem hdec_ok_valid_of_nonzero {R : Roms} (nonzero : ∀ i v, 0 < (R.sampleRate i v).toNat) {f : HeaderFields}
    {h : FrameHeader} (hd : hdec R f = .ok h) : h.valid R = true := by
  have ok := hdec_ok_iff.1 hd
  refine FrameHeader.valid_iff.2 ⟨?_, ?_, ok.jse ▸ validJse_decodeModeExt _ _ _, checkLayerII_ok.1 ok.layerII⟩
  · rw [validBitRate, Bool.or_eq_true, beq_iff_eq, List.any_eq_true]
    exact (decodeBitrate_ok_row ok.bitRate).imp_right fun ⟨i, hi⟩ => ⟨i, List.mem_finRange i, beq_iff_eq.2 hi.symm⟩
  · obtain ⟨i, hi⟩ := decodeSampleRate_ok_row ok.sampleRate
    rw [validSampleRate, Bool.and_eq_true, bne_iff_ne, List.any_eq_true, hi]
    exact ⟨(nonzero i _).ne', i, List.mem_finRange i, beq_self_eq_true _⟩

/-- Settles O11: each clause of the invariant is one step's doing. -/
theorem hdecReturnsValidHeader : Obligations.HdecReturnsValidHeader := by
  intro R f h hR hd
  have ok := hdec_ok_iff.1 hd
  obtain ⟨i, hi⟩ := decodeSampleRate_ok_row ok.sampleRate
  refine ⟨(decodeBitrate_ok_row ok.bitRate).imp_right fun ⟨i, hi⟩ => ⟨i.succ, Fin.succ_ne_zero i, hi⟩, ⟨i, hi⟩,
    hi ▸ (hR.nonzero i _).ne', ?_, ?_, ?_, fun hl => ?_, hdec_ok_valid_of_nonzero hR.nonzero hd⟩
  · rw [ok.jse, decodeModeExt_eq_absent_iff]
  · rw [ok.jse, decodeModeExt_eq_bandStart_iff]
  · rw [ok.jse, decodeModeExt_eq_stereoFlags_iff]
  · have allowed := checkLayerII_ok.1 ok.layerII
    rw [prohibitedPair_iff, not_and, not_or] at allowed
    exact allowed hl

end Sys2Proof

namespace Sys2Proof.Machine

open Claims

/-- Settles O8: the registers hold the codes of `withHeader`, which read back. -/
theorem portCodesReadBack : Obligations.PortCodesReadBack := by
  intro h r hvalid
  rw [← withHeader_accepted_eq_headerRegs, header?_accepted, header?_withHeader hvalid]

/-- Settles O7: the two outcomes of HDEC, in the numbers of the statement. -/
theorem hdecWritesHeaderOrError : Obligations.HdecWritesHeaderOrError := by
  refine fun f s => ⟨fun h hd => ?_, fun e hd => exec_hdec_of_error hd s⟩
  rw [exec_hdec_of_ok hd, withHeader_accepted_eq_headerRegs]
  rfl

end Sys2Proof.Machine
end

section
/-! The frame length as a number: its range, its growth with the bit rate, its form with a smaller product (42_frame_length R152, R157 to R159). -/

namespace Sys2Proof

open Machine

/-- Settles O14: FLEN answers a valid record or refuses (R161). -/
theorem flenRefusesInvalidRecord : Obligations.FlenRefusesInvalidRecord := by
  intro h s hinvalid
  rcases execFlen_cases h s with ⟨hvalid, _⟩ | ⟨_, he⟩
  · rw [hinvalid] at hvalid
    cases hvalid
  · exact he

/-- Settles O16: both lengths add the same to a quotient, and the quotient grows with its dividend. -/
theorem frameLengthMonotonicInBitRate : Obligations.FrameLengthMonotonicInBitRate := by
  intro R h b b' n n' hb hn hn'
  obtain ⟨-, rfl⟩ := flen_ok.1 hn
  obtain ⟨-, rfl⟩ := flen_ok.1 hn'
  have base : baseLength R { h with bitRateBps := b } ≤ baseLength R { h with bitRateBps := b' } :=
    Nat.div_le_div_right (Nat.mul_le_mul_left _ hb)
  exact Nat.add_le_add_right (Nat.add_le_add_right base _) _

/-- The samples per frame over 8, from the source's table (R136, R152). -/
def samplesEighth (h : FrameHeader) : Nat := samplesPerFrame[h.layer.lrow][h.version.vcol] / 8

theorem samplesEighth_cases (h : FrameHeader) : samplesEighth h = 48 ∨ samplesEighth h = 72 ∨ samplesEighth h = 144 := by
  have table : ∀ lrow vcol : Fin 3, samplesPerFrame[lrow][vcol] / 8 = 48 ∨ samplesPerFrame[lrow][vcol] / 8 = 72 ∨
      samplesPerFrame[lrow][vcol] / 8 = 144 := by decide
  exact table _ _

/-- 8 divides every number of samples per frame. -/
theorem samplesPer_eq_mul {R : Roms} (hspf : ∀ l v, (R.spf l v).toNat = samplesPerFrame[l][v]) (h : FrameHeader) :
    samplesPer R h = 8 * samplesEighth h := by
  have table : ∀ lrow vcol : Fin 3, samplesPerFrame[lrow][vcol] = 8 * (samplesPerFrame[lrow][vcol] / 8) := by decide
  rw [samplesPer, hspf]
  exact table _ _

theorem baseLength_eq_div {R : Roms} (hspf : ∀ l v, (R.spf l v).toNat = samplesPerFrame[l][v]) (h : FrameHeader) :
    baseLength R h = samplesEighth h * h.bitRateBps / h.sampleRateHz := by
  rw [baseLength, samplesPer_eq_mul hspf, Nat.mul_assoc, Nat.mul_div_mul_left _ _ (by decide)]

/-- Settles O17: the factor 8 of dividend and divisor cancels. -/
theorem frameLengthEquivalentForm : Obligations.FrameLengthEquivalentForm := by
  intro R h hR
  have eighth : samplesPer R h / 8 = samplesEighth h := by
    rw [samplesPer_eq_mul hR.spfExact, Nat.mul_div_cancel_left _ (by decide)]
  rw [eighth]
  exact ⟨baseLength_eq_div hR.spfExact h, samplesEighth_cases h⟩

/-- A valid record's rates are entries of the default tables, the bit rate of rows 1 to 14 unless it is 0 (R115). -/
theorem valid_rates {h : FrameHeader} (hvalid : h.valid Config.roms = true) :
    (h.bitRateBps = 0 ∨ ∃ i : Fin 14, h.bitRateBps = (Config.roms.bitrate i.succ (bitrateCol h.version h.layer)).toNat) ∧
      ∃ j, h.sampleRateHz = (Config.roms.sampleRate j h.version.vcol).toNat := by
  obtain ⟨hbps, hhz, -⟩ := FrameHeader.valid_iff.1 hvalid
  rw [validBitRate, Bool.or_eq_true, beq_iff_eq, List.any_eq_true] at hbps
  rw [validSampleRate, Bool.and_eq_true, List.any_eq_true] at hhz
  obtain ⟨-, j, -, hj⟩ := hhz
  exact ⟨hbps.imp_right fun ⟨i, _, hi⟩ => ⟨i, (beq_iff_eq.1 hi).symm⟩, j, (beq_iff_eq.1 hj).symm⟩

/-- The quotient over all entries of the default tables (R159). -/
theorem quotient_bounds (v : Version) (l : Layer) (i : Fin 14) (j : Fin 3) :
    24 ≤ samplesPerFrame[l.lrow][v.vcol] / 8 * (Config.roms.bitrate i.succ (bitrateCol v l)).toNat /
        (Config.roms.sampleRate j v.vcol).toNat ∧
      samplesPerFrame[l.lrow][v.vcol] / 8 * (Config.roms.bitrate i.succ (bitrateCol v l)).toNat /
        (Config.roms.sampleRate j v.vcol).toNat ≤ 2880 := by
  cases v <;> cases l <;> revert i j <;> decide

/-- The product over all entries of the default tables (R157). -/
theorem product_le (v : Version) (l : Layer) (i : Fin 14) :
    samplesPerFrame[l.lrow][v.vcol] * (Config.roms.bitrate i.succ (bitrateCol v l)).toNat ≤ 442368000 := by
  cases v <;> cases l <;> revert i <;> decide

theorem baseLength_bounds {h : FrameHeader} (hvalid : h.valid Config.roms = true) (hbps : h.bitRateBps ≠ 0) :
    24 ≤ baseLength Config.roms h ∧ baseLength Config.roms h ≤ 2880 := by
  obtain ⟨hrow, j, hj⟩ := valid_rates hvalid
  obtain ⟨i, hi⟩ := hrow.resolve_left hbps
  rw [baseLength_eq_div (by decide), samplesEighth, hi, hj]
  exact quotient_bounds h.version h.layer i j

theorem samplesPer_mul_le {h : FrameHeader} (hvalid : h.valid Config.roms = true) :
    samplesPer Config.roms h * h.bitRateBps ≤ 442368000 := by
  have table : ∀ l v, (Config.roms.spf l v).toNat = samplesPerFrame[l][v] := by decide
  rw [samplesPer, table]
  rcases (valid_rates hvalid).1 with h0 | ⟨i, hi⟩
  · rw [h0, Nat.mul_zero]
    exact Nat.zero_le _
  · rw [hi]
    exact product_le h.version h.layer i

/-- A frame is longer than its header and CRC (R159). -/
theorem flen_bounds {h : FrameHeader} {n : Nat} (hvalid : h.valid Config.roms = true) (hn : flen Config.roms h = .ok n) :
    24 + crcAdjust h ≤ n ∧ n ≤ 2883 := by
  obtain ⟨hbps, rfl⟩ := flen_ok.1 hn
  obtain ⟨lower, upper⟩ := baseLength_bounds hvalid hbps
  have pad := padAdjust_le h
  have crc := crcAdjust_le h
  omega

/-- Settles O15: the bounds of the quotient with what padding and CRC add, and the two words that reach them. -/
theorem frameLengthRange : Obligations.FrameLengthRange := by
  refine ⟨fun h hvalid hbps => ?_, ⟨_, rfl, rfl, rfl, rfl, rfl, rfl, rfl, rfl⟩, ⟨_, rfl, rfl, rfl, rfl, rfl, rfl, rfl, rfl⟩⟩
  have hn : flen Config.roms h = .ok (baseLength Config.roms h + padAdjust h + crcAdjust h) := flen_ok.2 ⟨hbps, rfl⟩
  obtain ⟨lower, upper⟩ := flen_bounds hvalid hn
  refine ⟨_, hn, by omega, upper, ?_⟩
  rw [payloadLen]
  omega

/-- Settles O18: the bounds of the factors and of the product against the widths. -/
theorem lengthArithmeticFitsWidths : Obligations.LengthArithmeticFitsWidths := by
  intro h hvalid
  obtain ⟨hbps, hhz, -⟩ := FrameHeader.valid_iff.1 hvalid
  have product := samplesPer_mul_le hvalid
  have rate := validBitRate_le hbps
  have sample := validSampleRate_bounds hhz
  refine ⟨product, product.trans_lt (by decide), by omega, by omega, by omega, rate.trans_lt (by decide),
    sample.2.trans_lt (by decide), fun n hn => flen_lt_of_valid hvalid hn⟩

end Sys2Proof
end

section
/-! What each code point and pattern of the opcode table does by itself (40_header_decoder R103 to R113; log 9). -/

namespace Sys2Proof.Machine

open Claims

/-- A row that names an error leaves the bank of that error, in numbers. -/
theorem exec_of_raises_eq_errorRegs {i : Instr} {e : HeaderError} (h : i.raises = some e) (s : State) :
    exec i s = .next { s with regs := errorRegs (statusCode e) } := by
  rw [exec_of_raises h, raiseError_eq, ofError_eq_errorRegs]
  rfl

/-- Settles O23: three rows write their code, the reserved one names its error. -/
theorem versionRowsFollowStepTwo : Obligations.VersionRowsFollowStepTwo := fun s =>
  ⟨rfl, rfl, rfl, exec_of_raises_eq_errorRegs (e := .reservedVersion) rfl s⟩

/-- Settles O24: three rows write their code, the reserved one names its error. -/
theorem layerRowsFollowStepThree : Obligations.LayerRowsFollowStepThree := fun s =>
  ⟨rfl, rfl, rfl, exec_of_raises_eq_errorRegs (e := .reservedLayer) rfl s⟩

/-- Settles O25: the decode step inverts the bit. -/
theorem protectionRowsAreInverted : Obligations.ProtectionRowsAreInverted := fun _ => ⟨rfl, rfl⟩

/-- Settles O29: the decode steps copy the bit. -/
theorem flagRowsWriteTheirBit : Obligations.FlagRowsWriteTheirBit := fun _ =>
  ⟨rfl, rfl, rfl, rfl, rfl, rfl, rfl, rfl⟩

/-- Settles O30: the decode step keeps the code. -/
theorem modeRowsWriteChannelMode : Obligations.ModeRowsWriteChannelMode := fun _ => ⟨rfl, rfl, rfl, rfl⟩

/-- Settles O31: each row writes the four registers of its union. -/
theorem modeExtensionRowsWriteTheUnion : Obligations.ModeExtensionRowsWriteTheUnion := fun _ =>
  ⟨rfl, rfl, rfl, rfl, rfl, rfl, rfl, rfl, rfl, rfl, rfl, rfl, rfl, rfl, rfl⟩

/-- Settles O32: three rows write their code, the reserved one names its error. -/
theorem emphasisRowsFollowStepTen : Obligations.EmphasisRowsFollowStepTen := fun s =>
  ⟨rfl, rfl, rfl, exec_of_raises_eq_errorRegs (e := .reservedEmphasis) rfl s⟩

/-- Settles O33: every pattern of the list names the same error. -/
theorem layerIIRowsRaiseProhibited : Obligations.LayerIIRowsRaiseProhibited := by
  intro s i hi
  have raises : i.raises = some .prohibitedBitrateChannelCombination := by
    revert i; decide
  exact exec_of_raises_eq_errorRegs raises s

/-- The bit-rate rows that read the table, each with its index. -/
def bitrateTableRows : List (Nat × Instr) :=
  [(1, .bitrateIdx1), (2, .bitrateIdx2), (3, .bitrateIdx3), (4, .bitrateIdx4), (5, .bitrateIdx5), (6, .bitrateIdx6),
    (7, .bitrateIdx7), (8, .bitrateIdx8), (9, .bitrateIdx9), (10, .bitrateIdx10), (11, .bitrateIdx11),
    (12, .bitrateIdx12), (13, .bitrateIdx13), (14, .bitrateIdx14)]

/-- Each of them is step 4 at its index. -/
theorem exec_bitrateTableRow {p : Nat × Instr} (hp : p ∈ bitrateTableRows) :
    ∃ idx : BitVec 4, idx.toNat = p.1 ∧ idx ≠ 0#4 ∧ idx ≠ 0xF#4 ∧ ∀ s, exec p.2 s = bitrateRow idx s := by
  have all : ∀ p ∈ bitrateTableRows, (BitVec.ofNat 4 p.1).toNat = p.1 ∧ BitVec.ofNat 4 p.1 ≠ 0#4 ∧
      BitVec.ofNat 4 p.1 ≠ 0xF#4 := by decide
  obtain ⟨h1, h2, h3⟩ := all p hp
  refine ⟨BitVec.ofNat 4 p.1, h1, h2, h3, fun s => ?_⟩
  simp only [bitrateTableRows, List.mem_cons, List.not_mem_nil, or_false] at hp
  rcases hp with rfl | rfl | rfl | rfl | rfl | rfl | rfl | rfl | rfl | rfl | rfl | rfl | rfl | rfl <;> rfl

/-- The sample-rate rows that read the table, each with its index. -/
def srateTableRows : List (Nat × Instr) := [(0, .srateIdx0), (1, .srateIdx1), (2, .srateIdx2)]

/-- Each of them is step 5 at its index. -/
theorem exec_srateTableRow {p : Nat × Instr} (hp : p ∈ srateTableRows) :
    ∃ sidx : BitVec 2, sidx.toNat = p.1 ∧ sidx ≠ 3#2 ∧ ∀ s, exec p.2 s = srateRow sidx s := by
  simp only [srateTableRows, List.mem_cons, List.not_mem_nil, or_false] at hp
  rcases hp with rfl | rfl | rfl
  · exact ⟨0#2, rfl, by decide, fun _ => rfl⟩
  · exact ⟨1#2, rfl, by decide, fun _ => rfl⟩
  · exact ⟨2#2, rfl, by decide, fun _ => rfl⟩

theorem decodeVersion_versionCode (v : Version) : decodeVersion (versionCode v) = .ok v := by
  cases v <;> rfl

theorem decodeLayer_layerCode (l : Layer) : decodeLayer (layerCode l) = .ok l := by
  cases l <;> rfl

/-- Settles O26: with its column at hand a row of the table writes the entry. -/
theorem bitrateRowsReadTheTable : Obligations.BitrateRowsReadTheTable := by
  refine fun s => ⟨rfl, exec_of_raises_eq_errorRegs (e := .invalidBitrateIndex) rfl s, fun p hp v l hv hl => ?_⟩
  obtain ⟨idx, hidx, h0, h15, hexec⟩ := exec_bitrateTableRow hp
  rw [← hidx, hexec, bitrateRow_entry h0 h15 (hv ▸ decodeVersion_versionCode v) (hl ▸ decodeLayer_layerCode l)]
  exact ⟨_, memRead_bitrateRom Config.roms (bitrateCol v l) ⟨idx.toNat, bitrateIdx_lt h15⟩, rfl⟩

/-- Settles O27: with its column at hand a row of the table writes the entry. -/
theorem sampleRateRowsReadTheTable : Obligations.SampleRateRowsReadTheTable := by
  refine fun s => ⟨exec_of_raises_eq_errorRegs (e := .reservedSampleRate) rfl s, fun p hp v hv => ?_⟩
  obtain ⟨sidx, hsidx, h3, hexec⟩ := exec_srateTableRow hp
  rw [← hsidx, hexec, srateRow_entry h3 (hv ▸ decodeVersion_versionCode v)]
  exact ⟨_, memRead_sampleRateRom Config.roms v.vcol ⟨sidx.toNat, srateIdx_lt h3⟩, rfl⟩

/-- The bit-rate row faults where no column is named (20_memory R47). -/
theorem bitrateRow_fault {idx : BitVec 4} {s : State} (h0 : idx ≠ 0#4) (h15 : idx ≠ 0xF#4)
    (h : s.regs.hdrVersion = 1#2 ∨ s.regs.hdrLayer = 0#2) : bitrateRow idx s = .fault .unpopulatedRomAddress := by
  rw [bitrateRow, if_neg h0, if_neg h15]
  rcases h with hv | hl
  · rw [hv, decodeVersion_error.2 ⟨rfl, rfl⟩]
  · rw [hl, decodeLayer_error.2 ⟨rfl, rfl⟩]
    cases decodeVersion s.regs.hdrVersion <;> rfl

theorem srateRow_fault {sidx : BitVec 2} {s : State} (h3 : sidx ≠ 3#2) (hv : s.regs.hdrVersion = 1#2) :
    srateRow sidx s = .fault .unpopulatedRomAddress := by
  rw [srateRow, if_neg h3, hv, decodeVersion_error.2 ⟨rfl, rfl⟩]

/-- Settles O28: the rows of the table are their steps, which fault without a column. -/
theorem rateRowsFaultWithoutColumn : Obligations.RateRowsFaultWithoutColumn := by
  refine fun s => ⟨fun h p hp => ?_, fun hv i hi => ?_⟩
  · obtain ⟨idx, -, h0, h15, hexec⟩ := exec_bitrateTableRow hp
    rw [hexec, bitrateRow_fault h0 h15 h]
  · have row : ∃ p ∈ srateTableRows, p.2 = i := by revert i; decide
    obtain ⟨p, hp, rfl⟩ := row
    obtain ⟨sidx, -, h3, hexec⟩ := exec_srateTableRow hp
    rw [hexec, srateRow_fault h3 hv]

/-- What an instruction can do: write the result registers, or stop at one of the two named stops (logs 12, 13). -/
theorem exec_cases (i : Instr) (s : State) : RegsOnly s (exec i s) ∨
    (∃ h, i = .flen h ∧ h.valid Config.roms = false ∧ exec i s = .refused .invalidRecord) ∨
    ((i.decodeStep = some .bitrate ∨ i.decodeStep = some .srate) ∧ i.raises = none ∧
      (s.regs.hdrVersion = 1#2 ∨ s.regs.hdrLayer = 0#2) ∧ exec i s = .fault .unpopulatedRomAddress) := by
  cases i with
  | hdec f => exact .inl (execHdec_regsOnly f s)
  | flen h =>
    rcases execFlen_cases h s with ⟨_, he⟩ | ⟨hinvalid, he⟩
    · exact .inl ⟨_, he⟩
    · exact .inr (.inl ⟨h, rfl, hinvalid, he⟩)
  | bitrateIdx1 | bitrateIdx2 | bitrateIdx3 | bitrateIdx4 | bitrateIdx5 | bitrateIdx6 | bitrateIdx7 | bitrateIdx8
  | bitrateIdx9 | bitrateIdx10 | bitrateIdx11 | bitrateIdx12 | bitrateIdx13 | bitrateIdx14 =>
    rw [exec]
    exact (bitrateRow_cases _ s).imp_right fun ⟨_, _, hcode, hfault⟩ => .inr ⟨.inl rfl, rfl, hcode, hfault⟩
  | srateIdx0 | srateIdx1 | srateIdx2 =>
    rw [exec]
    exact (srateRow_cases _ s).imp_right fun ⟨_, hcode, hfault⟩ => .inr ⟨.inr rfl, rfl, .inl hcode, hfault⟩
  | _ => exact .inl ⟨_, rfl⟩

/-- Settles O49: an answer that writes the registers is a next state. -/
theorem instructionsCompleteOrStopAsNamed : Obligations.InstructionsCompleteOrStopAsNamed := fun i s =>
  (exec_cases i s).imp_left fun ⟨_, he⟩ => ⟨_, he⟩

/-- Settles O48: a stop gives no next state, and every other answer writes the registers only. -/
theorem execTouchesOnlyResultRegisters : Obligations.ExecTouchesOnlyResultRegisters := by
  intro i s t ht
  rcases exec_cases i s with hregs | ⟨_, _, _, he⟩ | ⟨_, _, _, he⟩
  · exact hregs.frame ht
  · rw [he] at ht
    cases ht
  · rw [he] at ht
    cases ht

end Sys2Proof.Machine
end

section
/-! The rows of a word, run one after another, do what HDEC does on the word (40_header_decoder R114; log 9). -/

namespace Sys2Proof.Machine

theorem bitVec1_cases (b : BitVec 1) : b = 0#1 ∨ b = 1#1 := by
  revert b; decide

theorem bitVec2_cases (c : BitVec 2) : c = 0#2 ∨ c = 1#2 ∨ c = 2#2 ∨ c = 3#2 := by
  revert c; decide

theorem exec_versionRowOf (c : BitVec 2) (s : State) : exec (versionRowOf c) s = versionRow c s := by
  rcases bitVec2_cases c with rfl | rfl | rfl | rfl <;> rfl

theorem exec_layerRowOf (c : BitVec 2) (s : State) : exec (layerRowOf c) s = layerRow c s := by
  rcases bitVec2_cases c with rfl | rfl | rfl | rfl <;> rfl

theorem exec_protectionRowOf (b : BitVec 1) (s : State) : exec (protectionRowOf b) s = protectionRow b s := by
  rcases bitVec1_cases b with rfl | rfl <;> rfl

theorem exec_bitrateRowOf (idx : BitVec 4) (s : State) : exec (bitrateRowOf idx) s = bitrateRow idx s := by
  obtain ⟨⟨n, hn⟩⟩ := idx
  interval_cases n <;> rfl

theorem exec_srateRowOf (sidx : BitVec 2) (s : State) : exec (srateRowOf sidx) s = srateRow sidx s := by
  rcases bitVec2_cases sidx with rfl | rfl | rfl | rfl <;> rfl

theorem exec_paddingRowOf (b : BitVec 1) (s : State) : exec (paddingRowOf b) s = paddingRow b s := by
  rcases bitVec1_cases b with rfl | rfl <;> rfl

theorem exec_privateBitRowOf (b : BitVec 1) (s : State) : exec (privateBitRowOf b) s = privateBitRow b s := by
  rcases bitVec1_cases b with rfl | rfl <;> rfl

theorem exec_modeRowOf (m : ChannelMode) (s : State) :
    exec (modeRowOf m) s = .next (s.setRegs { s.regs with hdrChannelMode := m.code }) := by
  cases m <;> rfl

theorem exec_jointExtRowOf (l : Layer) (x : BitVec 2) (s : State) :
    exec (jointExtRowOf l x) s = modeExtRow .jointStereo l x s := by
  rcases bitVec2_cases x with rfl | rfl | rfl | rfl <;> cases l <;> rfl

theorem exec_copyrightRowOf (b : BitVec 1) (s : State) : exec (copyrightRowOf b) s = copyrightRow b s := by
  rcases bitVec1_cases b with rfl | rfl <;> rfl

theorem exec_originalRowOf (b : BitVec 1) (s : State) : exec (originalRowOf b) s = originalRow b s := by
  rcases bitVec1_cases b with rfl | rfl <;> rfl

theorem exec_emphasisRowOf (c : BitVec 2) (s : State) : exec (emphasisRowOf c) s = emphasisRow c s := by
  rcases bitVec2_cases c with rfl | rfl | rfl | rfl <;> rfl

/-- Step 4 with its column in the registers and an index that does not fail (R105). -/
theorem bitrateRow_ok {idx : BitVec 4} {s : State} {v : Version} {l : Layer} {bps : Nat}
    (hv : s.regs.hdrVersion = v.code) (hl : s.regs.hdrLayer = l.code)
    (hb : decodeBitrate Config.roms v l idx = .ok bps) :
    bitrateRow idx s = .next (s.setRegs { s.regs with hdrBitRateBps := BitVec.ofNat Config.brW bps }) := by
  rw [bitrateRow]
  split
  next h0 =>
    rw [h0, decodeBitrate_zero, Except.ok.injEq] at hb
    rw [← hb]
    rfl
  next =>
    rw [if_neg (decodeBitrate_ok_ne_invalid hb), hv, hl, decodeVersion_code, decodeLayer_code]
    simp only [hb, writeOrRaise_ok]

/-- Step 5 with its version in the registers and an index that does not fail (R106). -/
theorem srateRow_ok {sidx : BitVec 2} {s : State} {v : Version} {hz : Nat} (hv : s.regs.hdrVersion = v.code)
    (hr : decodeSampleRate Config.roms v sidx = .ok hz) :
    srateRow sidx s = .next (s.setRegs { s.regs with hdrSampleRateHz := BitVec.ofNat Config.srW hz }) := by
  rw [srateRow, if_neg (decodeSampleRate_ok_ne_reserved hr), hv, decodeVersion_code]
  simp only [hr, writeOrRaise_ok]

/-- Running the rows that some steps select, up to the first that fails. -/
def runStepRows (f : HeaderFields) (steps : List DecodeStep) (s : State) : Answer :=
  runRows (takeThrough (fun i => i.raises.isSome) (steps.filterMap (rowAt f))) s

section

variable {f : HeaderFields} {steps : List DecodeStep} {s : State} {v : Version} {l : Layer}

theorem runStepRows_cons {st : DecodeStep} {i : Instr} {t : State} (hrow : rowAt f st = some i)
    (hpass : rowError f st = none) (hexec : exec i s = .next t) :
    runStepRows f (st :: steps) s = runStepRows f steps t := by
  have raises : i.raises = none := by simpa [rowError, hrow] using hpass
  simp [runStepRows, hrow, takeThrough, raises, runRows, hexec]

theorem runStepRows_cons_error {st : DecodeStep} {e : HeaderError} (h : rowError f st = some e) :
    runStepRows f (st :: steps) s = raiseError e s := by
  obtain ⟨i, hrow, raises⟩ := Option.bind_eq_some_iff.1 h
  simp [runStepRows, hrow, takeThrough, raises, runRows, exec_of_raises raises, raiseError_eq]

theorem runStepRows_cons_none {st : DecodeStep} (h : rowAt f st = none) :
    runStepRows f (st :: steps) s = runStepRows f steps s := by
  simp [runStepRows, h]

theorem runStepRows_version (hv : decodeVersion f.version = .ok v) :
    runStepRows f (.version :: steps) s = runStepRows f steps (s.setRegs { s.regs with hdrVersion := v.code }) := by
  refine runStepRows_cons rfl (by rw [rowError_version, hv, errorOf_ok]) ?_
  rw [exec_versionRowOf, versionRow, hv, writeOrRaise_ok]

theorem runStepRows_layer (hl : decodeLayer f.layer = .ok l) :
    runStepRows f (.layer :: steps) s = runStepRows f steps (s.setRegs { s.regs with hdrLayer := l.code }) := by
  refine runStepRows_cons rfl (by rw [rowError_layer, hl, errorOf_ok]) ?_
  rw [exec_layerRowOf, layerRow, hl, writeOrRaise_ok]

theorem runStepRows_protection : runStepRows f (.protection :: steps) s =
    runStepRows f steps (s.setRegs { s.regs with hdrHasCrc := decodeProtection f.protection }) :=
  runStepRows_cons rfl (rowError_protection f) (exec_protectionRowOf f.protection s)

theorem runStepRows_bitrate {bps : Nat} (hb : decodeBitrate Config.roms v l f.bitrateIdx = .ok bps)
    (hv : s.regs.hdrVersion = v.code) (hl : s.regs.hdrLayer = l.code) : runStepRows f (.bitrate :: steps) s =
      runStepRows f steps (s.setRegs { s.regs with hdrBitRateBps := BitVec.ofNat Config.brW bps }) :=
  runStepRows_cons rfl (by rw [rowError_bitrate f Config.roms v l, hb, errorOf_ok])
    ((exec_bitrateRowOf f.bitrateIdx s).trans (bitrateRow_ok hv hl hb))

theorem runStepRows_srate {hz : Nat} (hr : decodeSampleRate Config.roms v f.srateIdx = .ok hz)
    (hv : s.regs.hdrVersion = v.code) : runStepRows f (.srate :: steps) s =
      runStepRows f steps (s.setRegs { s.regs with hdrSampleRateHz := BitVec.ofNat Config.srW hz }) :=
  runStepRows_cons rfl (by rw [rowError_srate f Config.roms v, hr, errorOf_ok])
    ((exec_srateRowOf f.srateIdx s).trans (srateRow_ok hv hr))

theorem runStepRows_modeExt (hl : decodeLayer f.layer = .ok l) : runStepRows f (.modeExt :: steps) s =
    runStepRows f steps (s.setRegs (s.regs.withJse (decodeModeExt (decodeMode f.mode) l f.modeExt))) := by
  have row : ∃ i, rowAt f .modeExt = some i ∧ exec i s = modeExtRow (decodeMode f.mode) l f.modeExt s := by
    cases hm : decodeMode f.mode with
    | jointStereo => exact ⟨jointExtRowOf l f.modeExt, by simp only [rowAt, hm, hl], exec_jointExtRowOf l f.modeExt s⟩
    | stereo => exact ⟨.modeExtIgnoredStereo, by simp only [rowAt, hm], rfl⟩
    | dualChannel => exact ⟨.modeExtIgnoredDualChannel, by simp only [rowAt, hm], rfl⟩
    | singleChannel => exact ⟨.modeExtIgnoredSingleChannel, by simp only [rowAt, hm], rfl⟩
  obtain ⟨i, hrow, hexec⟩ := row
  exact runStepRows_cons hrow (rowError_modeExt f) hexec

theorem runStepRows_emphasis {e : Emphasis} (he : decodeEmphasis f.emphasis = .ok e) :
    runStepRows f (.emphasis :: steps) s = runStepRows f steps (s.setRegs { s.regs with hdrEmphasis := e.code }) := by
  refine runStepRows_cons rfl (by rw [rowError_emphasis, he, errorOf_ok]) ?_
  rw [exec_emphasisRowOf, emphasisRow, he, writeOrRaise_ok]

/-- Steps 2 to 4 on a word that passes them. -/
theorem runStepRows_through_bitrate {bps : Nat} (hv : decodeVersion f.version = .ok v)
    (hl : decodeLayer f.layer = .ok l) (hb : decodeBitrate Config.roms v l f.bitrateIdx = .ok bps) :
    runStepRows f (.version :: .layer :: .protection :: .bitrate :: steps) s =
      runStepRows f steps (s.setRegs { s.regs with
        hdrVersion := v.code
        hdrLayer := l.code
        hdrHasCrc := decodeProtection f.protection
        hdrBitRateBps := BitVec.ofNat Config.brW bps }) := by
  rw [runStepRows_version hv, runStepRows_layer hl, runStepRows_protection, runStepRows_bitrate hb] <;> rfl

/-- Steps 6 to 9, which cannot fail. -/
theorem runStepRows_flags (hl : decodeLayer f.layer = .ok l) :
    runStepRows f (.padding :: .privateBit :: .mode :: .modeExt :: .copyright :: .original :: steps) s =
      runStepRows f steps (s.setRegs { s.regs.withJse (decodeModeExt (decodeMode f.mode) l f.modeExt) with
        hdrPadded := decodeFlag f.padding
        hdrPrivate := decodeFlag f.privateBit
        hdrChannelMode := (decodeMode f.mode).code
        hdrCopyrighted := decodeFlag f.copyright
        hdrOriginal := decodeFlag f.original }) := by
  rw [runStepRows_cons rfl (rowError_padding f) (exec_paddingRowOf f.padding s),
    runStepRows_cons rfl (rowError_privateBit f) (exec_privateBitRowOf f.privateBit _),
    runStepRows_cons rfl (rowError_mode f) (exec_modeRowOf (decodeMode f.mode) _), runStepRows_modeExt hl,
    runStepRows_cons rfl (rowError_copyright f) (exec_copyrightRowOf f.copyright _),
    runStepRows_cons rfl (rowError_original f) (exec_originalRowOf f.original _)]
  simp only [setRegs_setRegs, setRegs_regs]
  rfl

end

/-- Every prohibited pair of the default Layer II columns has a row (R112). -/
theorem layerIIRowOf_isSome {v : Version} {m : ChannelMode} {i : Fin 15}
    (h : prohibitedPair (Config.roms.bitrate i (bitrateCol v .layerII)).toNat m = true) :
    (layerIIRowOf v (Config.roms.bitrate i (bitrateCol v .layerII)).toNat m).isSome = true := by
  revert h
  cases v <;> cases m <;> revert i <;> decide

theorem rowError_layerII_of_prohibited {f : HeaderFields} {v : Version} {bps : Nat}
    (hv : decodeVersion f.version = .ok v) (hl : decodeLayer f.layer = .ok .layerII)
    (hb : decodeBitrate Config.roms v .layerII f.bitrateIdx = .ok bps)
    (hp : prohibitedPair bps (decodeMode f.mode) = true) :
    rowError f .layerII = some .prohibitedBitrateChannelCombination := by
  obtain ⟨i, _, rfl⟩ := decodeBitrate_ok_entry (by decide) hb
  obtain ⟨row, hrow⟩ := Option.isSome_iff_exists.1 (layerIIRowOf_isSome hp)
  have selected : rowAt f .layerII = some row := by simp only [rowAt, hv, hl, hb, hrow]
  rw [rowError, selected, Option.bind_some, layerIIRowOf_raises hrow]

theorem rowAt_layerII_of_hdec_ok {f : HeaderFields} {h : FrameHeader} (hd : hdec Config.roms f = .ok h) :
    rowAt f .layerII = none := by
  rw [Option.eq_none_iff_forall_not_mem]
  intro i hi
  obtain ⟨v, idx, _, _, _, hrow⟩ := rowAt_layerII_eq_some hi
  cases (layerIIRowOf_raises hrow).symm.trans (rowAt_raises_of_hdec_ok hd hi)

theorem runRows_of_hdec_ok {f : HeaderFields} {h : FrameHeader} (hd : hdec Config.roms f = .ok h) (s : State) :
    runRows (rowsOf f) s = .next (s.setRegs (s.regs.withHeader h)) := by
  have ok := hdec_ok_iff.1 hd
  show runStepRows f decodeSteps s = _
  rw [decodeSteps, runStepRows_through_bitrate ok.version ok.layer ok.bitRate, runStepRows_srate ok.sampleRate rfl,
    runStepRows_flags ok.layer, runStepRows_emphasis ok.emphasis,
    runStepRows_cons_none (rowAt_layerII_of_hdec_ok hd), ← ok.hasCrc, ← ok.padded, ← ok.privateBit, ← ok.mode, ← ok.jse,
    ← ok.copyrighted, ← ok.original]
  rfl

/-- Each step before the failing one writes registers only, and the error replaces them all. -/
theorem runRows_of_hdec_error {f : HeaderFields} {e : HeaderError} (hsync : f.sync = 0x7FF#11)
    (hd : hdec Config.roms f = .error e) (s : State) : runRows (rowsOf f) s = raiseError e s := by
  show runStepRows f decodeSteps s = _
  rw [decodeSteps]
  rcases hdec_cases Config.roms f with ⟨hno, _⟩ | ⟨_, hver, hd'⟩ | ⟨v, _, hv, hlay, hd'⟩ |
    ⟨v, l, _, hv, hl, hidx, hd'⟩ | ⟨v, l, bps, _, hv, hl, hb, hidx, hd'⟩ |
    ⟨v, l, bps, hz, _, hv, hl, hb, hr, hem, hd'⟩ | ⟨v, bps, hz, em, _, hv, hl, hb, hr, hem, hp, hd'⟩ | ⟨h, hd'⟩
  · exact absurd hsync hno
  all_goals cases hd.symm.trans hd'
  · exact runStepRows_cons_error (by rw [rowError_version, decodeVersion_error.2 ⟨hver, rfl⟩, errorOf_error])
  · rw [runStepRows_version hv,
      runStepRows_cons_error (by rw [rowError_layer, decodeLayer_error.2 ⟨hlay, rfl⟩, errorOf_error])]
    rfl
  · rw [runStepRows_version hv, runStepRows_layer hl, runStepRows_protection, runStepRows_cons_error (by
      rw [rowError_bitrate f Config.roms v l, decodeBitrate_error.2 ⟨hidx, rfl⟩, errorOf_error])]
    rfl
  · rw [runStepRows_through_bitrate hv hl hb, runStepRows_cons_error (by
      rw [rowError_srate f Config.roms v, decodeSampleRate_error.2 ⟨hidx, rfl⟩, errorOf_error])]
    rfl
  · rw [runStepRows_through_bitrate hv hl hb, runStepRows_srate hr rfl, runStepRows_flags hl,
      runStepRows_cons_error (by rw [rowError_emphasis, decodeEmphasis_error.2 ⟨hem, rfl⟩, errorOf_error])]
    rfl
  · rw [runStepRows_through_bitrate hv hl hb, runStepRows_srate hr rfl, runStepRows_flags hl,
      runStepRows_emphasis hem, runStepRows_cons_error (rowError_layerII_of_prohibited hv hl hb hp)]
    rfl

/-- Settles O34: the rows of an accepted word write its header, those of a rejected word end in its error. -/
theorem rowsInOrderGiveHdec : Obligations.RowsInOrderGiveHdec := by
  refine fun f s hsync => ⟨fun h hd => ⟨_, runRows_of_hdec_ok hd s, exec_hdec_of_ok hd s⟩, fun e hd => ?_⟩
  rw [runRows_of_hdec_error hsync hd, exec_hdec_of_error hd, raiseError_eq, ofError_eq_errorRegs]
  rfl

end Sys2Proof.Machine
end

section
/-! One step as a function: the edge writes the registers of the step rule, then the host and the outside world have their turn
(70_reset_and_hazards R241, R243; log 4). -/

namespace Sys2Proof.Machine

open Claims

/-- Settles O4: the edge runs the decoded instruction and then FLEN, and sequencing is associative. -/
theorem stepRunsDecodedInstruction : Obligations.StepRunsDecodedInstruction := by
  intro s i hrst hvalid hdecode
  have decoded := decode_bytesOfWord s.pins.inWord []
  rw [List.append_nil, hdecode, Except.ok.injEq, Prod.mk.injEq] at decoded
  rw [step, clockEdge_word hrst hvalid, wordEdge, ← decoded.1]
  cases exec i s <;> rfl

/-- The state after a step. -/
def nextState (s : State) : State := betweenEdges (s.setRegs (nextRegs s.regs s.pins))

/-- Every step completes (R243). -/
theorem step_eq_nextState (s : State) : step s = .next (nextState s) :=
  step_of_clockEdge (clockEdge_eq_nextRegs s)

@[simp] theorem nextState_regs (s : State) : (nextState s).regs = nextRegs s.regs s.pins := by
  rw [nextState, betweenEdges_regs, setRegs_regs]

theorem nextState_host_scanner {s : State} (h : s.driver = .scanner) :
    (nextState s).host = s.host.turn (nextRegs s.regs s.pins) :=
  betweenEdges_host_scanner (s := s.setRegs _) h

theorem nextState_host_outside {s : State} (h : s.driver = .outside) : (nextState s).host = s.host :=
  betweenEdges_host_outside (s := s.setRegs _) h

/-- A queued port value comes to the ports and leaves the queue (R241). -/
theorem nextState_of_inputs_cons {s : State} {p : Pins} {rest : List Pins} (h : s.inputs = p :: rest) :
    (nextState s).pins = p ∧ (nextState s).inputs = rest ∧ (nextState s).driver = .outside := by
  rw [nextState, betweenEdges, nextPins_cons (p := p) (rest := rest) (by rw [hostTurn_inputs, setRegs_inputs, h])]
  exact ⟨rfl, rfl, rfl⟩

/-- With nothing queued the scanner drives (45_host_stream_scanner R184). -/
theorem nextState_of_inputs_nil {s : State} (h : s.inputs = []) :
    (nextState s).pins = (nextState s).host.drive ∧ (nextState s).inputs = [] ∧ (nextState s).driver = .scanner := by
  have inputs : (hostTurn (s.setRegs (nextRegs s.regs s.pins))).inputs = [] := by
    rw [hostTurn_inputs, setRegs_inputs, h]
  rw [nextState, betweenEdges, nextPins_nil inputs]
  exact ⟨rfl, inputs, rfl⟩

theorem drive_of_presenting {h : Scanner} {attempt : Nat} {w : Word} (hphase : h.phase = .validating attempt w none) :
    h.drive = .present w := by
  rw [Scanner.drive, hphase]

theorem drive_of_not_presenting {h : Scanner} (hphase : ∀ attempt w, h.phase ≠ .validating attempt w none) :
    h.drive = .idle := by
  unfold Scanner.drive
  split
  next attempt w hp => exact absurd hp (hphase attempt w)
  next => rfl

/-- Settles O59: the queue decides who drives the coming edge, and who drove the last one decides whether the scanner moves. -/
theorem portsTakeQueuedInputsFirst : Obligations.PortsTakeQueuedInputsFirst := by
  refine fun s => ⟨fun p rest h => ⟨_, step_eq_nextState s, nextState_of_inputs_cons h⟩, fun h => ?_,
    fun h => ⟨_, step_eq_nextState s, nextState_host_outside h⟩,
    fun h => ⟨_, step_eq_nextState s, by rw [nextState_host_scanner h, nextState_regs]⟩⟩
  obtain ⟨hpins, hinputs, hdriver⟩ := nextState_of_inputs_nil h
  refine ⟨_, step_eq_nextState s, hinputs, hdriver, fun attempt w hphase => ?_, fun hphase => ?_⟩
  · rw [hpins, drive_of_presenting hphase]
    rfl
  · rw [hpins, drive_of_not_presenting hphase]
    exact ⟨rfl, rfl⟩

/-- A word at the ports overwrites every result register (70_reset_and_hazards R245). -/
theorem nextRegs_of_word {p : Pins} (hrst : p.rst = false) (hvalid : p.inValid = true) (r r' : ResultRegs) :
    nextRegs r p = nextRegs r' p ∧ (nextRegs r p).outValid = true := by
  cases hd : hdec Config.roms (fieldsOf p.inWord) with
  | error e =>
    rw [nextRegs_of_hdec_error hrst hvalid hd, nextRegs_of_hdec_error hrst hvalid hd]
    exact ⟨rfl, rfl⟩
  | ok h =>
    rw [nextRegs_of_hdec_ok hrst hvalid hd, nextRegs_of_hdec_ok hrst hvalid hd, withLength_outValid]
    refine ⟨?_, rfl⟩
    cases flen Config.roms h with
    | ok n => rfl
    | error e => cases e; rfl

/-- Settles O6: one edge is the latency, and the word alone decides its registers. -/
theorem resultIndependentOfHistory : Obligations.ResultIndependentOfHistory := by
  intro s s' hpins hrst hvalid
  have latency (u : State) : u.afterLatency = .next (nextState u) := by
    show andThen (step u) _ = _
    rw [step_eq_nextState]
    rfl
  obtain ⟨hregs, hout⟩ := nextRegs_of_word hrst hvalid s.regs s'.regs
  refine ⟨_, _, latency s, latency s', ?_, ?_⟩
  · rw [nextState_regs, nextState_regs, ← hpins, hregs]
  · rw [nextState_regs, hout]

end Sys2Proof.Machine
end

section
/-! The scanner's transitions, one lemma for each case (45_host_stream_scanner R174 to R181). -/

namespace Sys2Proof.Machine

namespace Scanner

/-- A turn at a Seeking boundary takes one decision and nothing else (R181; log 18). -/
theorem ask_eq (h : Scanner) : h.ask = { h with pulling := h.pulls.headD h.pulling, pulls := h.pulls.tail } := by
  unfold ask
  split
  next hp => simp [hp]
  next hp =>
    cases h
    cases hp
    rfl

@[simp] theorem ask_phase (h : Scanner) : h.ask.phase = h.phase := by rw [ask_eq]
@[simp] theorem ask_cursor (h : Scanner) : h.ask.cursor = h.cursor := by rw [ask_eq]
@[simp] theorem ask_bytesConsumed (h : Scanner) : h.ask.bytesConsumed = h.bytesConsumed := by rw [ask_eq]
@[simp] theorem ask_frames (h : Scanner) : h.ask.frames = h.frames := by rw [ask_eq]
@[simp] theorem ask_received (h : Scanner) : h.ask.received = h.received := by rw [ask_eq]
@[simp] theorem ask_endOfInput (h : Scanner) : h.ask.endOfInput = h.endOfInput := by rw [ask_eq]
@[simp] theorem ask_reads (h : Scanner) : h.ask.reads = h.reads := by rw [ask_eq]
@[simp] theorem ask_sourceEnds (h : Scanner) : h.ask.sourceEnds = h.sourceEnds := by rw [ask_eq]

theorem turn_of_seeking {h : Scanner} (hphase : h.phase = .seeking) (ports : ResultRegs) :
    h.turn ports = h.seekIfPulled := by
  rw [turn, hphase]

theorem turn_of_sampled {h : Scanner} {attempt : Nat} {w : Word} {x : Sample}
    (hphase : h.phase = .validating attempt w (some x)) (ports : ResultRegs) :
    h.turn ports = h.frameOrWait attempt w x := by
  rw [turn, hphase]

theorem turn_of_resyncing {h : Scanner} {attempt : Nat} {cause : ErrorKind}
    (hphase : h.phase = .resyncing attempt cause) (ports : ResultRegs) : h.turn ports = h.resync attempt := by
  rw [turn, hphase]

theorem turn_of_done {h : Scanner} (hphase : h.phase = .done) (ports : ResultRegs) : h.turn ports = h := by
  rw [turn, hphase]

theorem seekIfPulled_of_pulling {h : Scanner} (hpull : h.ask.pulling = true) : h.seekIfPulled = h.ask.seek :=
  if_pos hpull

theorem seekIfPulled_of_not_pulling {h : Scanner} (hpull : h.ask.pulling = false) : h.seekIfPulled = h.ask :=
  if_neg (by rw [hpull]; exact Bool.false_ne_true)

theorem seek_of_no_sync {h : Scanner} {w : Word} (hw : windowAt h.received h.cursor = some w)
    (hsync : syncOk w = false) : h.seek = h.skip := by
  simp [seek, hw, hsync]

theorem frameOrWait_of_truncated {h : Scanner} {pos : Nat} {x : Sample} (hshort : ¬ pos + x.length ≤ h.received.length)
    (hend : h.endOfInput = true) (w : Word) : h.frameOrWait pos w x = h.fail pos .truncatedPayload := by
  rw [frameOrWait, if_neg hshort, if_pos hend]

end Scanner

/-- The step of a scanner that drove and is at a Seeking boundary. -/
theorem nextState_host_seeking {s : State} (hdriver : s.driver = .scanner) (hphase : s.host.phase = .seeking) :
    (nextState s).host = s.host.seekIfPulled := by
  rw [nextState_host_scanner hdriver, Scanner.turn_of_seeking hphase]

/-- Settles O50: Seeking skips or attempts, and the attempt is what the scanner drives next. -/
theorem seekingSkipsOrAttempts : Obligations.SeekingSkipsOrAttempts := by
  intro s w hdriver hphase hpull hw
  have hhost : (nextState s).host = s.host.ask.seek := by
    rw [nextState_host_seeking hdriver hphase, Scanner.seekIfPulled_of_pulling hpull]
  have hwindow : windowAt s.host.ask.received s.host.ask.cursor = some w := by
    rw [Scanner.ask_received, Scanner.ask_cursor, hw]
  refine ⟨fun hsync => ⟨_, step_eq_nextState s, ?_⟩, fun hsync => ?_⟩
  · simp [hhost, Scanner.seek_of_no_sync hwindow (beq_eq_false_iff_ne.2 hsync), Scanner.skip]
  · have attempt : (nextState s).host = { s.host.ask with phase := .validating s.host.cursor w none } := by
      simp [hhost, Scanner.seek_of_sync hwindow (beq_iff_eq.2 hsync)]
    refine ⟨_, step_eq_nextState s, attempt, fun hinputs => ?_⟩
    rw [(nextState_of_inputs_nil hinputs).1, attempt]
    rfl

/-- Settles O51: fewer than four bytes are a short tail at the end of the input, else a reason to read on. -/
theorem shortTailFinishesOrSuspends : Obligations.ShortTailFinishesOrSuspends := by
  intro s hdriver hphase hpull hshort
  have hhost : (nextState s).host = if s.host.endOfInput then s.host.ask.finish else s.host.ask.readSource := by
    rw [nextState_host_seeking hdriver hphase, Scanner.seekIfPulled_of_pulling hpull, Scanner.seek_of_short,
      Scanner.ask_endOfInput]
    rwa [Scanner.ask_received, Scanner.ask_cursor]
  refine ⟨fun hend => ⟨_, step_eq_nextState s, ?_⟩, fun hopen => ⟨_, step_eq_nextState s, ?_⟩⟩
  · simp [hhost, hend, Scanner.finish]
  · rw [hhost, hopen]
    have kept := readSource_prefix s.host.ask
    have stream := Scanner.readSource_stream s.host.ask
    rw [Scanner.ask_received] at kept stream
    rw [Scanner.ask_reads] at stream
    exact ⟨by simp [hphase], by simp, by simp, by simp, kept, stream⟩

/-- Settles O53: this is Resyncing's one transition. -/
theorem resyncingAdvancesOneByte : Obligations.ResyncingAdvancesOneByte := by
  intro s attempt cause hdriver hphase
  refine ⟨_, step_eq_nextState s, ?_⟩
  rw [nextState_host_scanner hdriver, Scanner.turn_of_resyncing hphase]
  rfl

/-- Settles O54: with no decision left Seeking keeps its flag, and Done has no transition. -/
theorem cancelledScannerHoldsAtBoundary : Obligations.CancelledScannerHoldsAtBoundary := by
  refine ⟨fun s hold => ⟨_, step_eq_nextState s, ?_⟩, fun s rest hdriver hphase => ⟨fun hpulls => ?_, fun hpulls => ?_⟩⟩
  · cases hdriver : s.driver with
    | outside => rw [nextState_host_outside hdriver]
    | scanner =>
      rcases hold with ⟨hphase, hpulls, hpulling⟩ | hdone
      · have same : s.host.ask = s.host := by rw [Scanner.ask, hpulls]
        rw [nextState_host_seeking hdriver hphase, Scanner.seekIfPulled_of_not_pulling (by rw [same, hpulling]), same]
      · rw [nextState_host_scanner hdriver, Scanner.turn_of_done hdone]
  · have asked : s.host.ask = { s.host with pulling := false, pulls := rest } := by rw [Scanner.ask, hpulls]
    refine ⟨_, step_eq_nextState s, ?_⟩
    rw [nextState_host_seeking hdriver hphase, Scanner.seekIfPulled_of_not_pulling (by rw [asked]), asked]
  · have asked : s.host.ask = { s.host with pulling := true, pulls := rest } := by rw [Scanner.ask, hpulls]
    refine ⟨_, step_eq_nextState s, ?_⟩
    rw [nextState_host_seeking hdriver hphase, Scanner.seekIfPulled_of_pulling (by rw [asked]), asked]

/-- What a scanner that holds a header and a length does (R175, R178, R180): append, report the truncation, or wait on. -/
theorem frameOrWait_outcomes (h : Scanner) (attempt : Nat) (w : Word) (x : Sample) :
    (attempt + x.length ≤ h.received.length → h.frameOrWait attempt w x =
      { h with
        phase := .seeking
        cursor := attempt + x.length
        bytesConsumed := h.bytesConsumed + x.length
        frames := h.frames ++
          [⟨attempt, x.header, attempt + 4 + (if x.header.hasCrc then 2 else 0), attempt + x.length⟩] }) ∧
    (h.received.length < attempt + x.length → h.endOfInput = true →
      h.frameOrWait attempt w x = { h with phase := .resyncing attempt .truncatedPayload }) ∧
    (h.received.length < attempt + x.length → h.endOfInput = false →
      (h.frameOrWait attempt w x).phase = .validating attempt w (some x) ∧
        (h.frameOrWait attempt w x).cursor = h.cursor ∧ (h.frameOrWait attempt w x).bytesConsumed = h.bytesConsumed ∧
        (h.frameOrWait attempt w x).frames = h.frames ∧ h.received <+: (h.frameOrWait attempt w x).received ∧
        (h.frameOrWait attempt w x).received ++ (h.frameOrWait attempt w x).reads.flatten =
          h.received ++ h.reads.flatten) := by
  refine ⟨fun hfits => Scanner.frameOrWait_of_fits hfits w,
    fun hshort hend => Scanner.frameOrWait_of_truncated (by omega) hend w, fun hshort hopen => ?_⟩
  rw [Scanner.frameOrWait_of_open (by omega) hopen]
  exact ⟨rfl, Scanner.readSource_cursor h, Scanner.readSource_bytesConsumed h, Scanner.readSource_frames h,
    readSource_prefix h, Scanner.readSource_stream h⟩

/-- Settles O58: the held header and length decide, and a scanner that holds them presents no word. -/
theorem resumedValidatingAppendsFailsOrWaits : Obligations.ResumedValidatingAppendsFailsOrWaits := by
  intro s attempt w x hdriver hphase
  have hhost : (nextState s).host = s.host.frameOrWait attempt w x := by
    rw [nextState_host_scanner hdriver, Scanner.turn_of_sampled hphase]
  obtain ⟨appended, truncated, waiting⟩ := frameOrWait_outcomes s.host attempt w x
  refine ⟨fun hfits => ⟨_, step_eq_nextState s, hhost.trans (appended hfits)⟩,
    fun hshort hend => ⟨_, step_eq_nextState s, hhost.trans (truncated hshort hend)⟩, fun hshort hopen => ?_⟩
  obtain ⟨phase, cursor, consumed, frames, kept, stream⟩ := waiting hshort hopen
  rw [← hhost] at phase cursor consumed frames kept stream
  refine ⟨_, step_eq_nextState s, phase, cursor, consumed, frames, kept, stream, fun hinputs => ?_⟩
  rw [(nextState_of_inputs_nil hinputs).1, drive_of_not_presenting (by rw [phase]; exact nofun)]
  exact ⟨rfl, rfl⟩

end Sys2Proof.Machine
end

section
/-! What the scanner reads from the ports after the edge on its own window (45_host_stream_scanner R175, R184, 42_frame_length R160). -/

namespace Sys2Proof.Machine

open Claims

/-- What HDEC and FLEN of a window say. -/
def verdictOf (w : Word) : Verdict :=
  match hdec Config.roms (fieldsOf w) with
  | .error e => .rejected (.header e)
  | .ok h =>
    match flen Config.roms h with
    | .error e => .rejected (.length e)
    | .ok n => .framed ⟨h, n⟩

theorem verdictOf_of_hdec_error {w : Word} {e : HeaderError} (hd : hdec Config.roms (fieldsOf w) = .error e) :
    verdictOf w = .rejected (.header e) := by
  rw [verdictOf, hd]

theorem verdictOf_of_flen_error {w : Word} {h : FrameHeader} {e : LengthError}
    (hd : hdec Config.roms (fieldsOf w) = .ok h) (hn : flen Config.roms h = .error e) :
    verdictOf w = .rejected (.length e) := by
  simp only [verdictOf, hd, hn]

theorem verdictOf_of_flen_ok {w : Word} {h : FrameHeader} {n : Nat} (hd : hdec Config.roms (fieldsOf w) = .ok h)
    (hn : flen Config.roms h = .ok n) : verdictOf w = .framed ⟨h, n⟩ := by
  simp only [verdictOf, hd, hn]

/-- A window has a sample or a reason to be rejected. -/
theorem verdictOf_cases (w : Word) : (∃ x, sampleOf w = some x ∧ verdictOf w = .framed x) ∨
    (∃ cause, sampleOf w = none ∧ verdictOf w = .rejected cause) := by
  cases hd : hdec Config.roms (fieldsOf w) with
  | error e => exact .inr ⟨_, by simp only [sampleOf, hd], verdictOf_of_hdec_error hd⟩
  | ok h =>
    cases hn : flen Config.roms h with
    | error e => exact .inr ⟨_, by simp only [sampleOf, hd, hn], verdictOf_of_flen_error hd hn⟩
    | ok n => exact .inl ⟨_, by simp only [sampleOf, hd, hn], verdictOf_of_flen_ok hd hn⟩

theorem readPorts_errorRegs (e : HeaderError) : readPorts (errorRegs (statusCode e)) = .rejected (.header e) := by
  cases e <;> rfl

/-- After the edge on a window the ports show what HDEC and FLEN say of it. -/
theorem readPorts_nextRegs_present (r : ResultRegs) (w : Word) : readPorts (nextRegs r (.present w)) = verdictOf w := by
  cases hd : hdec Config.roms (fieldsOf w) with
  | error e => rw [nextRegs_of_hdec_error (p := .present w) rfl rfl hd, readPorts_errorRegs, verdictOf_of_hdec_error hd]
  | ok h =>
    rw [nextRegs_of_hdec_ok (p := .present w) rfl rfl hd, ← withHeader_accepted_eq_headerRegs]
    cases hn : flen Config.roms h with
    | error e =>
      rw [verdictOf_of_flen_error hd hn]
      cases e
      rfl
    | ok n => rw [verdictOf_of_flen_ok hd hn, readPorts_accepted (hdec_ok_valid hd) hn]

/-- The transition of a scanner that drove the edge: its turn on the result of what it drives. -/
def Scanner.move (h : Scanner) : Scanner := h.turn (nextRegs .reset h.drive)

/-- The registers before the edge do not matter to the scanner. -/
theorem Scanner.turn_nextRegs_drive (h : Scanner) (r : ResultRegs) : h.turn (nextRegs r h.drive) = h.move := by
  unfold Scanner.move Scanner.turn
  split
  case h_2 attempt w hphase => simp only [validate, drive_of_presenting hphase, readPorts_nextRegs_present]
  all_goals rfl

/-- A scanner that drives the edge makes its move. -/
theorem nextState_host_of_driven {s : State} (hdriver : s.driver = .scanner) (hpins : s.pins = s.host.drive) :
    (nextState s).host = s.host.move := by
  rw [nextState_host_scanner hdriver, hpins, Scanner.turn_nextRegs_drive]

theorem State.ScannerDrives.step_move {s : State} (hs : s.ScannerDrives) :
    ∃ t, step s = .next t ∧ t.ScannerDrives ∧ t.host = s.host.move := by
  obtain ⟨hpins, hinputs, hdriver⟩ := nextState_of_inputs_nil hs.inputs
  exact ⟨_, step_eq_nextState s, ⟨hdriver, hinputs, hpins⟩, nextState_host_of_driven hs.driver hs.pins⟩

namespace Scanner

theorem move_of_framed {h : Scanner} {attempt : Nat} {w : Word} {x : Sample}
    (hphase : h.phase = .validating attempt w none) (hx : verdictOf w = .framed x) :
    h.move = h.frameOrWait attempt w x := by
  rw [move, drive_of_presenting hphase, turn, hphase]
  simp only [validate, readPorts_nextRegs_present, hx]

theorem move_of_rejected {h : Scanner} {attempt : Nat} {w : Word} {cause : ErrorKind}
    (hphase : h.phase = .validating attempt w none) (hx : verdictOf w = .rejected cause) :
    h.move = h.fail attempt cause := by
  rw [move, drive_of_presenting hphase, turn, hphase]
  simp only [validate, readPorts_nextRegs_present, hx]

end Scanner

/-- Settles O52: the scanner reads HDEC's and FLEN's answer for its window from the ports and acts on it. -/
theorem validatingActsOnTheDecodedWindow : Obligations.ValidatingActsOnTheDecodedWindow := by
  intro s attempt w hinv hdriver hphase
  have hhost : (nextState s).host = s.host.move := nextState_host_of_driven hdriver (hinv.driven hdriver)
  refine ⟨fun e hd => ⟨_, step_eq_nextState s, ?_⟩, fun h hd h0 => ⟨_, step_eq_nextState s, ?_⟩, fun h n hd hn => ?_⟩
  · rw [hhost, Scanner.move_of_rejected hphase (verdictOf_of_hdec_error hd)]
    rfl
  · have hn : flen Config.roms h = .error .undefinedFrameLength := flen_error.2 h0
    rw [hhost, Scanner.move_of_rejected hphase (verdictOf_of_flen_error hd hn)]
    rfl
  · rw [Scanner.move_of_framed hphase (verdictOf_of_flen_ok hd hn)] at hhost
    obtain ⟨appended, truncated, waiting⟩ := frameOrWait_outcomes s.host attempt w ⟨h, n⟩
    refine ⟨fun hfits => ⟨_, step_eq_nextState s, hhost.trans (appended hfits)⟩,
      fun hshort hend => ⟨_, step_eq_nextState s, hhost.trans (truncated hshort hend)⟩,
      fun hshort hopen => ⟨_, step_eq_nextState s, ?_⟩⟩
    rw [hhost]
    exact waiting hshort hopen

end Sys2Proof.Machine
end

section
/-! What a move can do, said once (45_host_stream_scanner R174 to R181). -/

namespace Sys2Proof.Machine.Scanner

/-- Seeking finishes, reads on, begins an attempt or skips a byte (R174). -/
theorem seek_cases (h : Scanner) :
    (h.received.length < h.cursor + 4 ∧ h.endOfInput = true ∧ h.seek = h.finish) ∨
    (h.received.length < h.cursor + 4 ∧ h.endOfInput = false ∧ h.seek = h.readSource) ∨
    (∃ w, windowAt h.received h.cursor = some w ∧ syncOk w = true ∧
      h.seek = { h with phase := .validating h.cursor w none }) ∨
    (∃ w, windowAt h.received h.cursor = some w ∧ syncOk w = false ∧ h.seek = h.skip) := by
  cases hw : windowAt h.received h.cursor with
  | none =>
    have hshort := windowAt_eq_none.1 hw
    cases hend : h.endOfInput with
    | true => exact .inl ⟨hshort, rfl, by rw [seek_of_short hshort, hend, if_pos rfl]⟩
    | false => exact .inr (.inl ⟨hshort, rfl, by rw [seek_of_short hshort, hend, if_neg Bool.false_ne_true]⟩)
  | some w =>
    cases hsync : syncOk w with
    | true => exact .inr (.inr (.inl ⟨w, rfl, hsync, seek_of_sync hw hsync⟩))
    | false => exact .inr (.inr (.inr ⟨w, rfl, hsync, seek_of_no_sync hw hsync⟩))

/-- With a header and a length in hand: append, report the truncation, or wait (R175, R178, R180). -/
theorem frameOrWait_cases (h : Scanner) (attempt : Nat) (w : Word) (x : Sample) :
    (attempt + x.length ≤ h.received.length ∧ h.frameOrWait attempt w x = h.append attempt x) ∨
    (¬ attempt + x.length ≤ h.received.length ∧ h.endOfInput = true ∧
      h.frameOrWait attempt w x = h.fail attempt .truncatedPayload) ∨
    (h.endOfInput = false ∧
      h.frameOrWait attempt w x = { h.readSource with phase := .validating attempt w (some x) }) := by
  by_cases hfits : attempt + x.length ≤ h.received.length
  · exact .inl ⟨hfits, frameOrWait_of_fits hfits w⟩
  · cases hend : h.endOfInput with
    | true => exact .inr (.inl ⟨hfits, rfl, frameOrWait_of_truncated hfits hend w⟩)
    | false => exact .inr (.inr ⟨rfl, frameOrWait_of_open hfits hend w⟩)

/-- A move, by the phase. In Validating the window that was presented is the one that has a sample or has none. -/
theorem move_cases {h : Scanner} (hi : h.phaseInv) :
    (h.phase = .seeking ∧ h.ask.pulling = false ∧ h.move = h.ask) ∨
    (h.phase = .seeking ∧ h.ask.pulling = true ∧ h.move = h.ask.seek) ∨
    (∃ w sampled x, h.phase = .validating h.cursor w sampled ∧ windowAt h.received h.cursor = some w ∧
      syncOk w = true ∧ sampleOf w = some x ∧ h.move = h.frameOrWait h.cursor w x) ∨
    (∃ w cause, h.phase = .validating h.cursor w none ∧ windowAt h.received h.cursor = some w ∧
      sampleOf w = none ∧ h.move = h.fail h.cursor cause) ∨
    (∃ cause, h.phase = .resyncing h.cursor cause ∧ h.cursor < h.received.length ∧ h.move = h.resync h.cursor) ∨
    (h.phase = .done ∧ h.endOfInput = true ∧ h.cursor = h.received.length ∧ h.move = h) := by
  unfold phaseInv at hi
  split at hi
  next hphase =>
    have hmove : h.move = h.seekIfPulled := turn_of_seeking hphase _
    cases hpull : h.ask.pulling with
    | false => exact .inl ⟨hphase, rfl, hmove.trans (seekIfPulled_of_not_pulling hpull)⟩
    | true => exact .inr (.inl ⟨hphase, rfl, hmove.trans (seekIfPulled_of_pulling hpull)⟩)
  next attempt w sampled hphase =>
    obtain ⟨rfl, hw, hsync, hsampled⟩ := hi
    cases sampled with
    | some x => exact .inr (.inr (.inl ⟨w, _, x, hphase, hw, hsync, hsampled x rfl, turn_of_sampled hphase _⟩))
    | none =>
      rcases verdictOf_cases w with ⟨x, hx, hverdict⟩ | ⟨cause, hx, hverdict⟩
      · exact .inr (.inr (.inl ⟨w, _, x, hphase, hw, hsync, hx, move_of_framed hphase hverdict⟩))
      · exact .inr (.inr (.inr (.inl ⟨w, cause, hphase, hw, hx, move_of_rejected hphase hverdict⟩)))
  next attempt cause hphase =>
    obtain ⟨rfl, hlt⟩ := hi
    exact .inr (.inr (.inr (.inr (.inl ⟨cause, hphase, hlt, turn_of_resyncing hphase _⟩))))
  next hphase => exact .inr (.inr (.inr (.inr (.inr ⟨hphase, hi.1, hi.2, turn_of_done hphase _⟩))))

end Sys2Proof.Machine.Scanner
end

section
/-! The invariant of the machine between edges (10_state R22, R28, R29, 45_host_stream_scanner R172 to R179). -/

namespace Sys2Proof.Machine

open Claims

theorem sampleOf_valid {w : Word} {x : Sample} (hx : sampleOf w = some x) : x.header.valid Config.roms = true :=
  hdec_ok_valid (sampleOf_eq_some hx).1

/-- A frame has more bytes than its header and CRC (42_frame_length R159). -/
theorem sampleOf_length {w : Word} {x : Sample} (hx : sampleOf w = some x) : 24 + crcAdjust x.header ≤ x.length :=
  (flen_bounds (sampleOf_valid hx) (sampleOf_eq_some hx).2).1

theorem add_four_le_of_windowAt {bytes : List Byte} {pos : Nat} {w : Word} (hw : windowAt bytes pos = some w) :
    pos + 4 ≤ bytes.length := by
  by_contra hshort
  rw [windowAt_eq_none.2 (by omega)] at hw
  cases hw

theorem frameOf_wellPlaced {w : Word} {x : Sample} (hx : sampleOf w = some x) (pos : Nat) :
    (frameOf pos x).WellPlaced where
  header := sampleOf_valid hx
  length := by
    have hn := (sampleOf_eq_some hx).2
    rwa [frameOf, Nat.add_sub_cancel_left]
  payload := rfl
  nonempty := by
    have := sampleOf_length hx
    simp only [frameOf]
    omega

namespace Scanner.Inv

variable {h : Scanner}

theorem ask (hi : h.Inv) : h.ask.Inv := by
  rw [ask_eq]
  exact { hi with }

theorem readSource (hi : h.Inv) {p : Phase} (hp : ({ h.readSource with phase := p } : Scanner).phaseInv) :
    ({ h.readSource with phase := p } : Scanner).Inv where
  counted := by simpa using hi.counted
  bounded := by simpa using hi.bounded.trans (readSource_prefix h).length_le
  ordered := by simpa using hi.ordered
  placed := by simpa using hi.placed
  ended := readSource_ended h hi.ended
  phase := hp

theorem skip (hi : h.Inv) (hphase : h.phase = .seeking) (hlt : h.cursor < h.received.length) : h.skip.Inv where
  counted := by simp [hi.counted]
  bounded := hlt
  ordered := hi.ordered
  placed f hf := ⟨(hi.placed f hf).1, (hi.placed f hf).2.trans (Nat.le_succ _)⟩
  ended := hi.ended
  phase := by simp [phaseInv, hphase]

theorem finish (hi : h.Inv) (hend : h.endOfInput = true) : h.finish.Inv where
  counted := by
    have := hi.bounded
    simp only [finish_bytesConsumed, finish_cursor, hi.counted]
    omega
  bounded := le_rfl
  ordered := hi.ordered
  placed f hf := ⟨(hi.placed f hf).1, (hi.placed f hf).2.trans hi.bounded⟩
  ended := hi.ended
  phase := ⟨hend, rfl⟩

theorem seek (hi : h.Inv) (hphase : h.phase = .seeking) : h.seek.Inv := by
  rcases seek_cases h with ⟨_, hend, hseek⟩ | ⟨_, _, hseek⟩ | ⟨w, hw, hsync, hseek⟩ | ⟨w, hw, _, hseek⟩
  · exact hseek ▸ hi.finish hend
  · have same : h.readSource = { h.readSource with phase := .seeking } := by rw [← hphase, ← readSource_phase]
    rw [hseek, same]
    exact hi.readSource trivial
  · rw [hseek]
    exact { hi with phase := ⟨rfl, hw, hsync, fun _ hx => by cases hx⟩ }
  · have := add_four_le_of_windowAt hw
    exact hseek ▸ hi.skip hphase (by omega)

theorem fail (hi : h.Inv) (hlt : h.cursor < h.received.length) (cause : ErrorKind) : (h.fail h.cursor cause).Inv :=
  { hi with phase := ⟨rfl, hlt⟩ }

theorem append (hi : h.Inv) {w : Word} {x : Sample} (hx : sampleOf w = some x)
    (hfits : h.cursor + x.length ≤ h.received.length) : (h.append h.cursor x).Inv where
  counted := by simp [hi.counted]
  bounded := hfits
  ordered := List.pairwise_append.2 ⟨hi.ordered, List.pairwise_singleton _ _, fun f hf g hg => by
    rw [List.mem_singleton.1 hg]
    exact (hi.placed f hf).2⟩
  placed f hf := by
    rcases List.mem_append.1 hf with hf | hf
    · exact ⟨(hi.placed f hf).1, (hi.placed f hf).2.trans (Nat.le_add_right _ _)⟩
    · rw [List.mem_singleton.1 hf]
      exact ⟨frameOf_wellPlaced hx _, le_rfl⟩
  ended := hi.ended
  phase := trivial

theorem frameOrWait (hi : h.Inv) {w : Word} {x : Sample} (hw : windowAt h.received h.cursor = some w)
    (hsync : syncOk w = true) (hx : sampleOf w = some x) : (h.frameOrWait h.cursor w x).Inv := by
  have := add_four_le_of_windowAt hw
  rcases frameOrWait_cases h h.cursor w x with ⟨hfits, he⟩ | ⟨_, _, he⟩ | ⟨_, he⟩
  · exact he ▸ hi.append hx hfits
  · exact he ▸ hi.fail (by omega) _
  · rw [he]
    refine hi.readSource ⟨(readSource_cursor h).symm, windowAt_prefix (readSource_prefix h) hw, hsync, fun y hy => ?_⟩
    cases hy
    exact hx

theorem resync (hi : h.Inv) (hlt : h.cursor < h.received.length) : (h.resync h.cursor).Inv where
  counted := by simp [hi.counted]
  bounded := hlt
  ordered := hi.ordered
  placed f hf := ⟨(hi.placed f hf).1, (hi.placed f hf).2.trans (Nat.le_succ _)⟩
  ended := hi.ended
  phase := trivial

theorem move (hi : h.Inv) : h.move.Inv := by
  rcases move_cases hi.phase with ⟨_, _, he⟩ | ⟨hphase, _, he⟩ | ⟨w, _, x, _, hw, hsync, hx, he⟩ |
    ⟨w, cause, _, hw, _, he⟩ | ⟨_, _, hlt, he⟩ | ⟨_, _, _, he⟩ <;> rw [he]
  · exact hi.ask
  · exact hi.ask.seek (by rw [ask_phase, hphase])
  · exact hi.frameOrWait hw hsync hx
  · have := add_four_le_of_windowAt hw
    exact hi.fail (by omega) cause
  · exact hi.resync hlt
  · exact hi

end Scanner.Inv

theorem Scanner.start_inv (reads : List (List Byte)) (ends : Bool) : (Scanner.start reads ends).Inv where
  counted := rfl
  bounded := le_rfl
  ordered := List.Pairwise.nil
  placed _ hf := nomatch hf
  ended hend := nomatch hend
  phase := trivial

theorem resetRegs_inv : resetRegs.Inv := ⟨nofun, nofun, by decide, by decide⟩

theorem jseTag_ne_three (j : JointStereoExt) : j.tag ≠ 3#2 := by
  cases j <;> simp [JointStereoExt.tag]

theorem accepted_inv {h : FrameHeader} (hvalid : h.valid Config.roms = true) (r : ResultRegs) :
    ((r.withHeader h).accepted.withLength (flen Config.roms h)).Inv where
  headerValid _ _ := by
    refine ⟨h, by simp [header?_withHeader hvalid], hvalid, ?_⟩
    cases hn : flen Config.roms h with
    | error e => cases e; exact ⟨rfl, rfl⟩
    | ok n =>
      refine ⟨rfl, ?_⟩
      rw [withLength_ok_lenBytes, BitVec.toNat_ofNat, Nat.mod_eq_of_lt (flen_lt_of_valid hvalid hn)]
  errorBank _ hne := by simp at hne
  lenStatusCode := by
    cases flen Config.roms h with
    | error e => cases e; rw [withLength_undefined_lenStatus]; decide
    | ok n => rw [withLength_ok_lenStatus]; decide
  jseTagCode := by simpa using jseTag_ne_three h.jointStereoExt

/-- The four edges of the step rule keep the invariant of the registers. -/
theorem nextRegs_inv {r : ResultRegs} (hr : r.Inv) (p : Pins) : (nextRegs r p).Inv := by
  cases hrst : p.rst with
  | true => rw [nextRegs_of_rst hrst]; exact resetRegs_inv
  | false =>
    cases hvalid : p.inValid with
    | false =>
      rw [nextRegs_of_idle hrst hvalid]
      exact ⟨nofun, nofun, hr.lenStatusCode, hr.jseTagCode⟩
    | true =>
      cases hd : hdec Config.roms (fieldsOf p.inWord) with
      | error e =>
        rw [nextRegs_of_hdec_error hrst hvalid hd, ← ofError_eq_errorRegs]
        have failed : e.code ≠ 0#4 := by cases e <;> decide
        exact ⟨fun _ h0 => absurd h0 failed, fun _ _ => ⟨e, rfl⟩, by simp, by simp⟩
      | ok h =>
        rw [nextRegs_of_hdec_ok hrst hvalid hd, ← withHeader_accepted_eq_headerRegs]
        exact accepted_inv (hdec_ok_valid hd) r

/-- Settles O2: the registers are the reset bank, the scanner is at its start and drives no word. -/
theorem resetStateHoldsInvariant : Obligations.ResetStateHoldsInvariant :=
  ⟨rfl, rfl, rfl, rfl, rfl, resetRegs_inv, Scanner.start_inv [] false, fun _ => rfl⟩

/-- The scanner's part of the invariant, and the ports when it drives. -/
theorem nextState_host_inv {s : State} (hi : s.host.Inv) (hdriven : s.driver = .scanner → s.pins = s.host.drive) :
    (nextState s).host.Inv := by
  cases hdriver : s.driver with
  | outside => exact nextState_host_outside hdriver ▸ hi
  | scanner => exact nextState_host_of_driven hdriver (hdriven hdriver) ▸ hi.move

theorem nextState_driven (s : State) : (nextState s).driver = .scanner → (nextState s).pins = (nextState s).host.drive := by
  intro hdriver
  cases hinputs : s.inputs with
  | nil => exact (nextState_of_inputs_nil hinputs).1
  | cons p rest => cases hdriver.symm.trans (nextState_of_inputs_cons hinputs).2.2

/-- Settles O47: the edge keeps the registers' part, the scanner's move its own, and the time between edges sets the ports. -/
theorem stepKeepsInvariant : Obligations.StepKeepsInvariant := by
  intro s t hs hstep
  rw [step_eq_nextState] at hstep
  cases hstep
  exact ⟨nextState_regs s ▸ nextRegs_inv hs.regs s.pins, nextState_host_inv hs.host hs.driven, nextState_driven s⟩

end Sys2Proof.Machine
end

section
/-! The frames of a stream from an offset on, without the fuel (45_host_stream_scanner R174 to R179). -/

namespace Sys2Proof.Machine

theorem framesFrom_of_short {bytes : List Byte} {pos : Nat} (hshort : bytes.length < pos + 4) (fuel : Nat) :
    framesFrom bytes fuel pos = [] := by
  cases fuel with
  | zero => rfl
  | succ fuel => rw [framesFrom, windowAt_eq_none.2 hshort]

/-- Every window moves on by at least one byte, so fuel for the bytes that are left is enough, and more changes nothing. -/
theorem framesFrom_fuel {bytes : List Byte} {fuel fuel' pos : Nat} (h : bytes.length + 1 ≤ pos + fuel)
    (h' : bytes.length + 1 ≤ pos + fuel') : framesFrom bytes fuel pos = framesFrom bytes fuel' pos := by
  induction fuel generalizing fuel' pos with
  | zero => rw [framesFrom_of_short (by omega), framesFrom_of_short (by omega)]
  | succ fuel ih =>
    cases fuel' with
    | zero => rw [framesFrom_of_short (by omega), framesFrom_of_short (by omega)]
    | succ fuel' =>
      have next (n : Nat) (hn : 0 < n) : framesFrom bytes fuel (pos + n) = framesFrom bytes fuel' (pos + n) :=
        ih (by omega) (by omega)
      rw [framesFrom, framesFrom]
      split
      next => rfl
      next w _ =>
        split
        next x hx =>
          have := sampleOf_length hx
          rw [next x.length (by omega), next 1 Nat.one_pos]
        next => exact next 1 Nat.one_pos

/-- The frames of a stream from an offset on. -/
def framesAfter (bytes : List Byte) (pos : Nat) : List Frame := framesFrom bytes (bytes.length + 1) pos

theorem framesOf_eq_framesAfter (bytes : List Byte) : framesOf bytes = framesAfter bytes 0 := rfl

theorem framesAfter_of_short {bytes : List Byte} {pos : Nat} (hshort : bytes.length < pos + 4) :
    framesAfter bytes pos = [] := framesFrom_of_short hshort _

/-- A window with a sample that fits is a frame, and the rest follows it (R175). -/
theorem framesAfter_of_fits {bytes : List Byte} {pos : Nat} {w : Word} {x : Sample}
    (hw : windowAt bytes pos = some w) (hx : sampleOf w = some x) (hfits : pos + x.length ≤ bytes.length) :
    framesAfter bytes pos = frameOf pos x :: framesAfter bytes (pos + x.length) := by
  have := sampleOf_length hx
  have next : framesFrom bytes bytes.length (pos + x.length) = framesAfter bytes (pos + x.length) :=
    framesFrom_fuel (by omega) (by omega)
  rw [framesAfter, framesFrom, hw]
  simp only [hx, if_pos hfits, next]

/-- A window without a sample that fits is passed over by one byte (R174, R176). -/
theorem framesAfter_of_not_fits {bytes : List Byte} {pos : Nat} {w : Word} (hw : windowAt bytes pos = some w)
    (hx : ∀ x, sampleOf w = some x → bytes.length < pos + x.length) :
    framesAfter bytes pos = framesAfter bytes (pos + 1) := by
  have next : framesFrom bytes bytes.length (pos + 1) = framesAfter bytes (pos + 1) :=
    framesFrom_fuel (by omega) (by omega)
  rw [framesAfter, framesFrom, hw]
  cases hs : sampleOf w with
  | none => simp only [hs, next]
  | some x => simp only [hs, next, if_neg (Nat.not_le.2 (hx x hs))]

end Sys2Proof.Machine
end

section
/-! The invariant of a parse: the frames collected and those of the rest of the stream are the frames of the stream
(45_host_stream_scanner R172 to R181). -/

namespace Sys2Proof.Machine

/-- The scanner is part way through parsing a stream. -/
structure Scanner.Parsing (stream : List Byte) (h : Scanner) : Prop where
  inv : h.Inv
  /-- what is buffered and what is still to come is the stream (R180) -/
  source : h.received ++ h.reads.flatten = stream
  /-- the frames still to be found begin at the cursor -/
  frames : h.frames ++ framesAfter stream h.cursor = framesOf stream
  /-- an attempt that failed is no frame (R176) -/
  failed : ∀ attempt cause, h.phase = .resyncing attempt cause →
    framesAfter stream h.cursor = framesAfter stream (h.cursor + 1)

namespace Scanner.Parsing

variable {stream : List Byte} {h : Scanner}

theorem received_isPrefix (hp : h.Parsing stream) : h.received <+: stream := ⟨_, hp.source⟩

theorem received_of_ended (hp : h.Parsing stream) (hend : h.endOfInput = true) : h.received = stream := by
  have source := hp.source
  rwa [(hp.inv.ended hend).1, List.flatten_nil, List.append_nil] at source

theorem ask (hp : h.Parsing stream) : h.ask.Parsing stream where
  inv := hp.inv.ask
  source := by simpa using hp.source
  frames := by simpa using hp.frames
  failed attempt cause hphase := by simpa using hp.failed attempt cause (by simpa using hphase)

theorem finish (hp : h.Parsing stream) (hend : h.endOfInput = true) (hshort : h.received.length < h.cursor + 4) :
    h.finish.Parsing stream where
  inv := hp.inv.finish hend
  source := hp.source
  frames := by
    have all := hp.received_of_ended hend
    have none_left := hp.frames
    rw [framesAfter_of_short (all ▸ hshort)] at none_left
    rw [finish_frames, finish_cursor, framesAfter_of_short (by rw [all]; omega), none_left]
  failed _ _ hphase := by cases hphase

theorem readSource (hp : h.Parsing stream) {p : Phase} (hinv : ({ h.readSource with phase := p } : Scanner).Inv)
    (hphase : ∀ attempt cause, p ≠ .resyncing attempt cause) :
    ({ h.readSource with phase := p } : Scanner).Parsing stream where
  inv := hinv
  source := (readSource_stream h).trans hp.source
  frames := by simpa using hp.frames
  failed attempt cause hp := absurd hp (hphase attempt cause)

/-- The cursor passes a byte at which no frame begins. -/
theorem advance (hp : h.Parsing stream) (hnone : framesAfter stream h.cursor = framesAfter stream (h.cursor + 1))
    {h' : Scanner} (hinv : h'.Inv) (hstream : h'.received ++ h'.reads.flatten = h.received ++ h.reads.flatten)
    (hcursor : h'.cursor = h.cursor + 1) (hframes : h'.frames = h.frames) (hphase : h'.phase = .seeking) :
    h'.Parsing stream where
  inv := hinv
  source := hstream.trans hp.source
  frames := by rw [hframes, hcursor, ← hnone, hp.frames]
  failed attempt cause h := by rw [hphase] at h; cases h

theorem no_frame_of_no_sample (hp : h.Parsing stream) {w : Word} (hw : windowAt h.received h.cursor = some w)
    (hx : sampleOf w = none) : framesAfter stream h.cursor = framesAfter stream (h.cursor + 1) :=
  framesAfter_of_not_fits (windowAt_prefix hp.received_isPrefix hw) fun x h => by cases hx.symm.trans h

theorem seek (hp : h.Parsing stream) (hphase : h.phase = .seeking) : h.seek.Parsing stream := by
  have hinv := hp.inv.seek hphase
  rcases seek_cases h with ⟨hshort, hend, he⟩ | ⟨_, _, he⟩ | ⟨w, _, _, he⟩ | ⟨w, hw, hsync, he⟩ <;> rw [he] at hinv ⊢
  · exact hp.finish hend hshort
  · have same : h.readSource = { h.readSource with phase := .seeking } := by
      rw [← (readSource_phase h).trans hphase]
    rw [same] at hinv ⊢
    exact hp.readSource hinv nofun
  · exact ⟨hinv, hp.source, hp.frames, nofun⟩
  · have noSample : sampleOf w = none := by
      rw [Option.eq_none_iff_forall_not_mem]
      intro x hx
      cases hsync.symm.trans (syncOk_of_hdec_ok (sampleOf_eq_some hx).1)
    exact hp.advance (hp.no_frame_of_no_sample hw noSample) hinv rfl rfl rfl hphase

theorem fail (hp : h.Parsing stream) (hnone : framesAfter stream h.cursor = framesAfter stream (h.cursor + 1))
    {cause : ErrorKind} (hinv : (h.fail h.cursor cause).Inv) : (h.fail h.cursor cause).Parsing stream :=
  ⟨hinv, hp.source, hp.frames, fun _ _ _ => hnone⟩

theorem frameOrWait (hp : h.Parsing stream) {w : Word} {x : Sample} (hw : windowAt h.received h.cursor = some w)
    (hsync : syncOk w = true) (hx : sampleOf w = some x) : (h.frameOrWait h.cursor w x).Parsing stream := by
  have hinv := hp.inv.frameOrWait hw hsync hx
  have hstreamw := windowAt_prefix hp.received_isPrefix hw
  rcases frameOrWait_cases h h.cursor w x with ⟨hfits, he⟩ | ⟨hshort, hend, he⟩ | ⟨_, he⟩ <;> rw [he] at hinv ⊢
  · refine ⟨hinv, hp.source, ?_, nofun⟩
    have hframes := hp.frames
    rw [framesAfter_of_fits hstreamw hx (hfits.trans hp.received_isPrefix.length_le)] at hframes
    rwa [append_frames, append_cursor, List.append_assoc]
  · refine hp.fail (framesAfter_of_not_fits hstreamw fun y hy => ?_) hinv
    cases hx.symm.trans hy
    rw [← hp.received_of_ended hend]
    omega
  · exact hp.readSource hinv nofun

theorem move (hp : h.Parsing stream) : h.move.Parsing stream := by
  have hinv := hp.inv.move
  rcases move_cases hp.inv.phase with ⟨_, _, he⟩ | ⟨hphase, _, he⟩ | ⟨w, _, x, _, hw, hsync, hx, he⟩ |
    ⟨w, cause, _, hw, hx, he⟩ | ⟨cause, hphase, _, he⟩ | ⟨_, _, _, he⟩ <;> rw [he] at hinv ⊢
  · exact hp.ask
  · exact hp.ask.seek (by rw [ask_phase, hphase])
  · exact hp.frameOrWait hw hsync hx
  · exact hp.fail (hp.no_frame_of_no_sample hw hx) hinv
  · exact hp.advance (hp.failed _ cause hphase) hinv rfl rfl rfl rfl
  · exact hp

/-- Done has the frames of the whole stream and has consumed all of it (R179). -/
theorem result_of_done (hp : h.Parsing stream) (hdone : h.phase = .done) :
    h.frames = framesOf stream ∧ h.bytesConsumed = stream.length := by
  have ended := hp.inv.phase
  rw [phaseInv, hdone] at ended
  obtain ⟨hend, hcursor⟩ := ended
  rw [hp.received_of_ended hend] at hcursor
  have hframes := hp.frames
  rw [framesAfter_of_short (by omega), List.append_nil] at hframes
  exact ⟨hframes, hp.inv.counted.trans hcursor⟩

end Scanner.Parsing

theorem Scanner.Parsing.runSteps {stream : List Byte} {s t : State} {k : Nat} (hs : s.ScannerDrives)
    (hp : s.host.Parsing stream) (hrun : runSteps k s = .next t) : t.host.Parsing stream := by
  induction k generalizing s with
  | zero =>
    cases hrun
    exact hp
  | succ k ih =>
    obtain ⟨u, hstep, hu, huhost⟩ := hs.step_move
    rw [Machine.runSteps, hstep, andThen_next] at hrun
    exact ih hu (huhost ▸ hp.move) hrun

end Sys2Proof.Machine
end

section
/-! A parse whose input ends and whose caller pulls in the end comes to Done (45_host_stream_scanner R179 to R181). -/

namespace Sys2Proof.Machine

/-- How far a phase is from the next one that moves the cursor. -/
def Phase.rank : Phase → Nat
  | .seeking => 3
  | .validating _ _ _ => 2
  | .resyncing _ _ => 1
  | .done => 0

namespace Scanner

/-- What a parse has left to do: decisions, reads, bytes, and the way to the next byte. -/
def remaining (stream : List Byte) (h : Scanner) : Nat :=
  h.pulls.length + h.pendingReads + 4 * (stream.length - h.cursor) + h.phase.rank

/-- The input ends, and the caller's last decision is to pull (R170, R181). -/
structure WillPull (h : Scanner) : Prop where
  sourceEnds : h.sourceEnds = true
  pulls : h.pulls.getLastD h.pulling = true

namespace WillPull

variable {h : Scanner}

theorem ask (hw : h.WillPull) : h.ask.WillPull := by
  refine ⟨by simpa using hw.sourceEnds, ?_⟩
  have last := hw.pulls
  rw [ask_eq]
  cases hpulls : h.pulls with
  | nil => rwa [hpulls] at last
  | cons p rest => rwa [hpulls, List.getLastD_cons] at last

theorem readSource (hw : h.WillPull) : h.readSource.WillPull :=
  ⟨by rw [readSource_sourceEnds, hw.sourceEnds], by rw [readSource_pulls, readSource_pulling, hw.pulls]⟩

theorem seek (hw : h.WillPull) : h.seek.WillPull := by
  rcases seek_cases h with ⟨_, _, he⟩ | ⟨_, _, he⟩ | ⟨_, _, _, he⟩ | ⟨_, _, _, he⟩ <;> rw [he]
  · exact { hw with }
  · exact hw.readSource
  · exact { hw with }
  · exact { hw with }

theorem frameOrWait (hw : h.WillPull) (attempt : Nat) (w : Word) (x : Sample) :
    (h.frameOrWait attempt w x).WillPull := by
  rcases frameOrWait_cases h attempt w x with ⟨_, he⟩ | ⟨_, _, he⟩ | ⟨_, he⟩ <;> rw [he]
  · exact { hw with }
  · exact { hw with }
  · exact { hw.readSource with }

theorem move (hw : h.WillPull) (hi : h.Inv) : h.move.WillPull := by
  rcases move_cases hi.phase with ⟨_, _, he⟩ | ⟨_, _, he⟩ | ⟨w, _, x, _, _, _, _, he⟩ | ⟨_, _, _, _, _, he⟩ |
    ⟨_, _, _, he⟩ | ⟨_, _, _, he⟩ <;> rw [he]
  · exact hw.ask
  · exact hw.ask.seek
  · exact hw.frameOrWait _ w x
  · exact { hw with }
  · exact { hw with }
  · exact hw

end WillPull

section

variable {stream : List Byte} {h : Scanner}

theorem pendingReads_ask (h : Scanner) : h.ask.pendingReads = h.pendingReads := by
  rw [ask_eq]
  rfl

theorem remaining_ask (stream : List Byte) (h : Scanner) :
    h.ask.remaining stream + h.pulls.length = h.remaining stream + h.pulls.tail.length := by
  have pulls : h.ask.pulls = h.pulls.tail := by rw [ask_eq]
  simp only [remaining, pulls, pendingReads_ask, ask_cursor, ask_phase]
  omega

theorem remaining_readSource_lt (hends : h.sourceEnds = true) (hopen : h.endOfInput = false) {p : Phase}
    (hp : p.rank ≤ h.phase.rank) : ({ h.readSource with phase := p } : Scanner).remaining stream < h.remaining stream := by
  have reads := pendingReads_readSource hends hopen
  show h.readSource.pulls.length + h.readSource.pendingReads + 4 * (stream.length - h.readSource.cursor) + p.rank < _
  rw [readSource_pulls, readSource_cursor, remaining]
  omega

theorem remaining_seek_lt (hp : h.Parsing stream) (hw : h.WillPull) (hphase : h.phase = .seeking) :
    h.seek.remaining stream < h.remaining stream := by
  have bounded := hp.inv.bounded
  have received := hp.received_isPrefix.length_le
  rcases seek_cases h with ⟨_, _, he⟩ | ⟨_, hopen, he⟩ | ⟨w, _, _, he⟩ | ⟨w, hwindow, _, he⟩ <;> rw [he]
  · show h.pulls.length + h.pendingReads + 4 * (stream.length - h.received.length) + 0 < _
    rw [remaining, hphase, Phase.rank]
    omega
  · have same : h.readSource = { h.readSource with phase := h.phase } := by rw [← readSource_phase]
    rw [same]
    exact remaining_readSource_lt hw.sourceEnds hopen le_rfl
  · show h.pulls.length + h.pendingReads + 4 * (stream.length - h.cursor) + 2 < _
    rw [remaining, hphase, Phase.rank]
    omega
  · have := add_four_le_of_windowAt hwindow
    show h.pulls.length + h.pendingReads + 4 * (stream.length - (h.cursor + 1)) + h.phase.rank < _
    rw [remaining]
    omega

theorem remaining_frameOrWait_lt (hp : h.Parsing stream) (hw : h.WillPull) {w : Word} {x : Sample}
    {sampled : Option Sample} (hphase : h.phase = .validating h.cursor w sampled) (hx : sampleOf w = some x) :
    (h.frameOrWait h.cursor w x).remaining stream < h.remaining stream := by
  have received := hp.received_isPrefix.length_le
  have length := sampleOf_length hx
  have rank : h.phase.rank = 2 := by rw [hphase, Phase.rank]
  rcases frameOrWait_cases h h.cursor w x with ⟨hfits, he⟩ | ⟨_, _, he⟩ | ⟨hopen, he⟩ <;> rw [he]
  · show h.pulls.length + h.pendingReads + 4 * (stream.length - (h.cursor + x.length)) + 3 < _
    rw [remaining, rank]
    omega
  · show h.pulls.length + h.pendingReads + 4 * (stream.length - h.cursor) + 1 < _
    rw [remaining, rank]
    omega
  · exact remaining_readSource_lt hw.sourceEnds hopen (by rw [rank, Phase.rank])

/-- Every move of a parse that is not done takes a decision, a read, a byte or a phase off what is left. -/
theorem remaining_move_lt (hp : h.Parsing stream) (hw : h.WillPull) (hdone : h.phase ≠ .done) :
    h.move.remaining stream < h.remaining stream := by
  have received := hp.received_isPrefix.length_le
  have asked := remaining_ask stream h
  have tail := List.length_tail (l := h.pulls)
  rcases move_cases hp.inv.phase with ⟨_, hheld, he⟩ | ⟨hphase, _, he⟩ | ⟨w, sampled, x, hphase, _, _, hx, he⟩ |
    ⟨w, cause, hphase, _, _, he⟩ | ⟨cause, hphase, hlt, he⟩ | ⟨hphase, _, _, _⟩
  · -- a caller that stops has a decision left
    have decisions : h.pulls ≠ [] := fun hnone => by
      have last := hw.pulls
      rw [hnone, List.getLastD_nil] at last
      rw [Scanner.ask, hnone] at hheld
      cases last.symm.trans hheld
    have := List.length_pos_iff.2 decisions
    rw [he]
    omega
  · have sought := remaining_seek_lt hp.ask hw.ask (by rw [ask_phase, hphase])
    rw [he]
    omega
  · rw [he]
    exact remaining_frameOrWait_lt hp hw hphase hx
  · rw [he]
    show h.pulls.length + h.pendingReads + 4 * (stream.length - h.cursor) + 1 < _
    rw [remaining, hphase, Phase.rank]
    omega
  · rw [he]
    show h.pulls.length + h.pendingReads + 4 * (stream.length - (h.cursor + 1)) + 3 < _
    rw [remaining, hphase, Phase.rank]
    omega
  · exact absurd hphase hdone

end

end Scanner

end Sys2Proof.Machine

namespace Sys2Proof.Claims

open Machine

/-- A parse comes to Done, by induction on what is left to do, and its result is the stream's. -/
theorem parsesTo_framesOf {stream : List Byte} {s : State} (hs : s.ScannerDrives) (hp : s.host.Parsing stream)
    (hw : s.host.WillPull) : ParsesTo s (framesOf stream) stream.length := by
  induction hn : s.host.remaining stream using Nat.strong_induction_on generalizing s with
  | _ n ih =>
    by_cases hdone : s.host.phase = .done
    · obtain ⟨hframes, hconsumed⟩ := hp.result_of_done hdone
      rw [← hframes, ← hconsumed]
      exact .of_done hdone
    · obtain ⟨t, hstep, ht, hhost⟩ := hs.step_move
      have less := Scanner.remaining_move_lt hp hw hdone
      rw [hn, ← hhost] at less
      exact .of_step hstep (ih _ less ht (hhost ▸ hp.move) (hhost ▸ hw.move hp.inv) rfl)

theorem parsing_of_start {h : Scanner} {reads : List (List Byte)} {ends pulling : Bool} {decisions : List Bool}
    (hh : h = { Scanner.start reads ends with pulling := pulling, pulls := decisions }) :
    h.Parsing reads.flatten := by
  subst hh
  exact ⟨{ Scanner.start_inv reads ends with }, rfl, rfl, fun _ _ hphase => by cases hphase⟩

/-- Settles O60: the invariant of a parse holds at every step, whatever the caller decides, and a caller that pulls in the end
lets it come to Done. -/
theorem callerMayStopAtAnyBoundary : Obligations.CallerMayStopAtAnyBoundary := by
  intro s reads ends pulling decisions hpins hdriver hinputs hhost
  have hs : s.ScannerDrives := ⟨hdriver, hinputs, by rw [hpins, hhost]; rfl⟩
  have hp := parsing_of_start hhost
  refine ⟨fun k t hrun => ?_, fun hends hlast => ?_⟩
  · have ht := hp.runSteps hs hrun
    exact ⟨⟨_, ht.frames⟩, ht.source, ht.inv.counted⟩
  · exact parsesTo_framesOf hs hp (by rw [hhost]; exact ⟨hends, hlast⟩)

/-- Settles O55: a caller that pulls throughout is one with no decision to take. -/
theorem scannerParsesWholeStream : Obligations.ScannerParsesWholeStream := by
  intro s reads hs
  exact parsesTo_framesOf hs.scannerDrives (parsing_of_start (decisions := []) hs.host)
    (by rw [hs.host]; exact ⟨rfl, rfl⟩)

end Sys2Proof.Claims
end

section
/-! Garbage between two frames (45_host_stream_scanner R186). -/

namespace Sys2Proof.Claims

open Machine

/-- A well-formed frame in a stream is the first of the frames from its offset on. -/
theorem framesAfter_frameBytes (before after : List Byte) (f : FrameBytes) :
    framesAfter (before ++ (f.bytes ++ after)) before.length =
      frameOf before.length f.sample :: framesAfter (before ++ (f.bytes ++ after)) (before.length + f.sample.length) := by
  have window : windowAt (before ++ (f.bytes ++ after)) before.length = some f.word := by
    rw [FrameBytes.bytes, List.append_assoc]
    exact windowAt_of_bytesOfWord _ _ _
  refine framesAfter_of_fits window f.accepted ?_
  rw [List.length_append, List.length_append, f.length_bytes]
  omega

/-- No frame begins where no window has a sample that fits. -/
theorem framesAfter_skip {bytes : List Byte} {start stop : Nat} (hle : start ≤ stop)
    (hnone : ∀ p w x, start ≤ p → p < stop → windowAt bytes p = some w → sampleOf w = some x →
      bytes.length < p + x.length) : framesAfter bytes start = framesAfter bytes stop := by
  induction stop, hle using Nat.le_induction with
  | base => rfl
  | succ stop hle ih =>
    rw [ih fun p w x h1 h2 => hnone p w x h1 (by omega)]
    cases hw : windowAt bytes stop with
    | none =>
      have := windowAt_eq_none.1 hw
      rw [framesAfter_of_short this, framesAfter_of_short (by omega)]
    | some w => exact framesAfter_of_not_fits hw fun x hx => hnone stop w x hle (Nat.lt_succ_self stop) hw hx

/-- Two frames with garbage between them in which no frame begins. -/
theorem framesOf_garbage {f g : FrameBytes} {garbage stream : List Byte}
    (hstream : stream = f.bytes ++ garbage ++ g.bytes)
    (hnone : ∀ p w x, f.sample.length ≤ p → p < f.sample.length + garbage.length → windowAt stream p = some w →
      sampleOf w = some x → stream.length < p + x.length) :
    framesOf stream = [frameOf 0 f.sample, frameOf (f.sample.length + garbage.length) g.sample] := by
  have first := framesAfter_frameBytes [] (garbage ++ g.bytes) f
  have second := framesAfter_frameBytes (f.bytes ++ garbage) [] g
  have atFirst : [] ++ (f.bytes ++ (garbage ++ g.bytes)) = stream := by simp [hstream]
  have atSecond : f.bytes ++ garbage ++ (g.bytes ++ []) = stream := by simp [hstream]
  have length : stream.length = f.sample.length + garbage.length + g.sample.length := by
    rw [hstream, List.length_append, List.length_append, f.length_bytes, g.length_bytes]
  have offset : (f.bytes ++ garbage).length = f.sample.length + garbage.length := by
    rw [List.length_append, f.length_bytes]
  rw [atFirst, List.length_nil, Nat.zero_add] at first
  rw [atSecond, offset] at second
  rw [framesOf_eq_framesAfter, first, framesAfter_skip (Nat.le_add_right _ garbage.length) hnone, second,
    framesAfter_of_short (by omega)]

/-- The shortest frame of the default tables, MPEG2 Layer III at 8000 bits per second, with a silent payload. -/
def shortFrame : FrameBytes where
  word := 0xFFF31400#32
  sample :=
    { header :=
        { version := .mpeg2, layer := .layerIII, hasCrc := false, bitRateBps := 8000, sampleRateHz := 24000,
          padded := false, privateBit := false, channelMode := .stereo, jointStereoExt := .absent,
          copyrighted := false, original := false, emphasis := .none }
      length := 24 }
  body := List.replicate 20 0#8
  accepted := by decide
  full := rfl

/-- A header word as garbage takes the first 20 bytes of the frame behind it for its own payload. -/
theorem framesOf_header_as_garbage : framesOf (shortFrame.bytes ++ bytesOfWord shortFrame.word ++ shortFrame.bytes) =
    [frameOf 0 shortFrame.sample, frameOf 24 shortFrame.sample] := by
  decide

/-- Settles O57: the scanner's frames are the stream's, and the bytes that are in no frame are the garbage. -/
theorem garbageBetweenFramesIsSkipped : Obligations.GarbageBetweenFramesIsSkipped := by
  refine ⟨fun s f g garbage reads hs hreads hnone => ?_, shortFrame, shortFrame, bytesOfWord shortFrame.word, ?_⟩
  · obtain ⟨k, t, hrun, hdone, hframes, hconsumed⟩ := scannerParsesWholeStream s reads hs
    rw [framesOf_garbage hreads hnone] at hframes
    refine ⟨k, t, hrun, hdone, hframes, hconsumed, ?_⟩
    rw [Scanner.skippedBytes, hframes, hconsumed, hreads]
    simp only [frameOf, List.map_cons, List.map_nil, List.sum_cons, List.sum_nil, List.length_append,
      FrameBytes.length_bytes]
    omega
  · rw [framesOf_header_as_garbage]
    decide

end Sys2Proof.Claims
end
